-- ==== Sys2Proof/Word.lean ====
section
/-! DEFINITION. Words, addresses and bytes.

A word is an unsigned integer in `[0, 2^W)` and an address an integer in `[0, N)` (00_scope.md R10), where `W`
and `N` are construction parameters without a fixed value (R4). Both are therefore held as `Nat`, reduced by
`wordOf` and `addressOf` of `Machine/Ops.lean` wherever the spec applies `word_of` and `address_of`. The ranges are
invariants of the state (10_state.md R31, `State.wf`). See notes/assumptions/8.md. -/

namespace Sys2Proof

/-- A byte of a program text, which the host's loader turns into a word (30_encoding.md R70). -/
abbrev Byte := BitVec 8

end Sys2Proof
end

