-- ==== Sys2Proof/Syntax.lean ====
section
/-! DEFINITION. The operations, the instructions and the Statement of 30_encoding.md. -/

namespace Sys2Proof

/-- An operation of the instruction table, or `INERT` for a word with no binding (30_encoding.md R63). -/
inductive Op where
  | halt | jmp | jz | jnz | call | ret
  | push | pop | dup | swap | ld | st
  | add | sub | inc | dec | and | or | xor | not | eq | lt | gt
  | in_ | out
  | inert
deriving DecidableEq, Repr

/-- An instruction: one constructor per row of spec/opcode_table.json. Every field is a whole word
(30_encoding.md R60): `w0` is the opcode word fetched at `pc`, and `opnd` the inline operand word of format F2 (R61).
The opcode word is kept because the Statement reports it (R69), and because an `OPMAP` may bind several word values
to one operation (R63); see notes/assumptions/10.md. -/
inductive Instr where
  | halt (w0 : Nat)
  | jmp (w0 opnd : Nat)
  | jz (w0 opnd : Nat)
  | jnz (w0 opnd : Nat)
  | call (w0 opnd : Nat)
  | ret (w0 : Nat)
  | push (w0 opnd : Nat)
  | pop (w0 : Nat)
  | dup (w0 : Nat)
  | swap (w0 : Nat)
  | ld (w0 : Nat)
  | st (w0 : Nat)
  | add (w0 : Nat)
  | sub (w0 : Nat)
  | inc (w0 : Nat)
  | dec (w0 : Nat)
  | and (w0 : Nat)
  | or (w0 : Nat)
  | xor (w0 : Nat)
  | not (w0 : Nat)
  | eq (w0 : Nat)
  | lt (w0 : Nat)
  | gt (w0 : Nat)
  | in_ (w0 : Nat)
  | out (w0 : Nat)
  | inert (w0 : Nat)
deriving DecidableEq, Repr

/-- The operation an instruction performs. -/
def Instr.op : Instr → Op
  | .halt _ => .halt
  | .jmp _ _ => .jmp
  | .jz _ _ => .jz
  | .jnz _ _ => .jnz
  | .call _ _ => .call
  | .ret _ => .ret
  | .push _ _ => .push
  | .pop _ => .pop
  | .dup _ => .dup
  | .swap _ => .swap
  | .ld _ => .ld
  | .st _ => .st
  | .add _ => .add
  | .sub _ => .sub
  | .inc _ => .inc
  | .dec _ => .dec
  | .and _ => .and
  | .or _ => .or
  | .xor _ => .xor
  | .not _ => .not
  | .eq _ => .eq
  | .lt _ => .lt
  | .gt _ => .gt
  | .in_ _ => .in_
  | .out _ => .out
  | .inert _ => .inert

/-- The opcode word `w0` (30_encoding.md R69). -/
def Instr.opcode : Instr → Nat
  | .halt w0 | .ret w0 | .pop w0 | .dup w0 | .swap w0 | .ld w0 | .st w0 => w0
  | .add w0 | .sub w0 | .inc w0 | .dec w0 | .and w0 | .or w0 | .xor w0 | .not w0 => w0
  | .eq w0 | .lt w0 | .gt w0 | .in_ w0 | .out w0 | .inert w0 => w0
  | .jmp w0 _ | .jz w0 _ | .jnz w0 _ | .call w0 _ | .push w0 _ => w0

/-- The inline operand word of format F2, `none` in format F1 (30_encoding.md R69). -/
def Instr.payload : Instr → Option Nat
  | .jmp _ opnd | .jz _ opnd | .jnz _ opnd | .call _ opnd | .push _ opnd => some opnd
  | .halt _ | .ret _ | .pop _ | .dup _ | .swap _ | .ld _ | .st _ => none
  | .add _ | .sub _ | .inc _ | .dec _ | .and _ | .or _ | .xor _ | .not _ => none
  | .eq _ | .lt _ | .gt _ | .in_ _ | .out _ | .inert _ => none

/-- A Statement, the pair `{opcode, payload}` a committed step returns (30_encoding.md R69). -/
structure Stmt where
  opcode : Nat
  payload : Option Nat
deriving DecidableEq, Repr

/-- The Statement of an instruction: the input word `IN` reads is no payload (30_encoding.md R69). -/
def Instr.stmt (i : Instr) : Stmt := ⟨i.opcode, i.payload⟩

end Sys2Proof
end

