-- ==== Sys2Proof/Config.lean ====
section
/-! DEFINITION. The construction parameters of the core (00_scope.md R4 to R9). They are configuration, fixed when the
core is built; no transaction changes them (10_state.md R29). The model leaves every one of them open: a state
carries the parameters its core was built with (notes/assumptions/1.md). -/

namespace Sys2Proof

/-- `COLLISION_POLICY` (00_scope.md R7). -/
inductive CollisionPolicy where
  | fault
  | tolerate
deriving DecidableEq, Repr

/-- `OPMAP` as data: the word values that are bound, each with its operation. A word value bound by no entry is
`INERT`; the first entry of a word value counts. Every total function from `[0, 2^W)` to operations is such a list
(notes/assumptions/3.md, `Laws/Decode.lean`). -/
abbrev OpMap := List (Nat × Op)

/-- The parameters of one core. -/
structure Config where
  /-- `N`, the number of words in memory (00_scope.md R4). -/
  n : Nat
  /-- `W`, the number of bits per word (00_scope.md R4). -/
  w : Nat
  /-- `WMAX`, the largest legal word width, default 64 (00_scope.md R5). -/
  wmax : Nat
  /-- `SP_INIT`, the address `sp` takes at power-on and at every load, default `N - 1` (00_scope.md R6). -/
  spInit : Nat
  /-- `COLLISION_POLICY`, default `FAULT` (00_scope.md R7). -/
  policy : CollisionPolicy
  /-- `OPMAP`, default RB-1 (00_scope.md R8). -/
  opmap : OpMap
deriving DecidableEq, Repr

/-- The parameters of a core that can be built (00_scope.md R4, R6). -/
abbrev Config.valid (c : Config) : Prop :=
  1 ≤ c.n ∧ 1 ≤ c.w ∧ c.w ≤ c.wmax ∧ c.spInit < c.n

end Sys2Proof
end

