-- ==== Sys2Proof/Decode.lean ====
section
/-! DEFINITION. The instruction table, the decoder and the encoder (30_encoding.md R60 to R69). -/

namespace Sys2Proof

/-- The reference binding RB-1 (30_encoding.md R63). Every value not listed is inert. -/
def rb1 : OpMap :=
  [(0x48, .halt), (0x4A, .jmp), (0x5A, .jz), (0x4E, .jnz), (0x43, .call), (0x52, .ret)]
  ++ [(0x50, .push), (0x70, .pop), (0x44, .dup), (0x58, .swap), (0x4C, .ld), (0x53, .st)]
  ++ [(0x2B, .add), (0x2D, .sub), (0x69, .inc), (0x64, .dec), (0x26, .and), (0x7C, .or)]
  ++ [(0x5E, .xor), (0x7E, .not), (0x3D, .eq), (0x3C, .lt), (0x3E, .gt)]
  ++ [(0x49, .in_), (0x4F, .out)]

/-- The parameters with the defaults of the spec for a core of `n` words of `w` bits: `WMAX = 64`,
`SP_INIT = N - 1`, `COLLISION_POLICY = FAULT`, `OPMAP = RB-1` (00_scope.md R5 to R8). -/
def Config.withDefaults (n w : Nat) : Config :=
  { n := n, w := w, wmax := 64, spInit := n - 1, policy := .fault, opmap := rb1 }

/-- DESIGN CHOICE (notes/assumptions/2.md): the core that `State.reset` is the reset state of. The spec gives `N` and
`W` no default; 16 and 8 are the values its examples and vectors use (95_test_vectors.md). -/
def Config.reference : Config := Config.withDefaults 16 8

/-- The first binding of a word value, `INERT` where there is none. -/
def OpMap.lookup : OpMap → Nat → Op
  | [], _ => .inert
  | (v, op) :: rest, x => if x = v then op else OpMap.lookup rest x

/-- `Decode(w) = OPMAP(w)`: total, never an error (30_encoding.md R62, R68). -/
def Config.decodeWord (c : Config) (x : Nat) : Op := OpMap.lookup c.opmap x

/-- The length `k` in words (30_encoding.md R63, R65). -/
def Op.len : Op → Nat
  | .jmp | .jz | .jnz | .call | .push => 2
  | .halt | .ret | .pop | .dup | .swap | .ld | .st => 1
  | .add | .sub | .inc | .dec | .and | .or | .xor | .not | .eq | .lt | .gt => 1
  | .in_ | .out | .inert => 1

/-- The attribute `u`: the stack cells the operation reads, downward from the top (30_encoding.md R63, R66). -/
def Op.reads : Op → Nat
  | .halt | .jmp | .call | .push | .in_ | .inert => 0
  | .jz | .jnz | .ret | .pop | .dup | .ld | .inc | .dec | .not | .out => 1
  | .swap | .st | .add | .sub | .and | .or | .xor | .eq | .lt | .gt => 2

/-- The attribute `v`: the stack cells the operation writes back (30_encoding.md R63, R66). -/
def Op.writes : Op → Nat
  | .halt | .jmp | .jz | .jnz | .ret | .pop | .st | .out | .inert => 0
  | .call | .push | .ld | .add | .sub | .inc | .dec => 1
  | .and | .or | .xor | .not | .eq | .lt | .gt | .in_ => 1
  | .dup | .swap => 2

/-- The instruction of operation `op` with opcode word `w0`; `opnd` is its inline operand where the format is F2
and is not used where it is F1 (30_encoding.md R60). -/
def Instr.ofOp (op : Op) (w0 opnd : Nat) : Instr :=
  match op with
  | .halt => .halt w0
  | .jmp => .jmp w0 opnd
  | .jz => .jz w0 opnd
  | .jnz => .jnz w0 opnd
  | .call => .call w0 opnd
  | .ret => .ret w0
  | .push => .push w0 opnd
  | .pop => .pop w0
  | .dup => .dup w0
  | .swap => .swap w0
  | .ld => .ld w0
  | .st => .st w0
  | .add => .add w0
  | .sub => .sub w0
  | .inc => .inc w0
  | .dec => .dec w0
  | .and => .and w0
  | .or => .or w0
  | .xor => .xor w0
  | .not => .not w0
  | .eq => .eq w0
  | .lt => .lt w0
  | .gt => .gt w0
  | .in_ => .in_ w0
  | .out => .out w0
  | .inert => .inert w0

/-- Why a list of words holds no whole instruction. The machine itself never meets either: its memory gives a word at
every address (notes/assumptions/19.md). -/
inductive DecodeRefusal where
  /-- There is no opcode word. Safe: nothing is decoded. -/
  | noOpcodeWord
  /-- The opcode word is of format F2 and no operand word follows it. Safe: nothing is decoded. -/
  | noOperandWord
deriving DecidableEq, Repr

/-- The instruction at the front of a list of words, with the words after it. The length comes from the first word
alone (30_encoding.md R60, R65); the operand is taken verbatim and never decoded (R61). -/
def decode (c : Config) : List Nat → Except DecodeRefusal (Instr × List Nat)
  | [] => .error .noOpcodeWord
  | w0 :: rest =>
    let op := c.decodeWord w0
    if op.len = 2 then
      match rest with
      | [] => .error .noOperandWord
      | opnd :: rest => .ok (Instr.ofOp op w0 opnd, rest)
    else .ok (Instr.ofOp op w0 0, rest)

/-- The words of an instruction: the opcode word and, in format F2, the operand word (30_encoding.md R60). -/
def encode (i : Instr) : List Nat :=
  match i.payload with
  | some opnd => [i.opcode, opnd]
  | none => [i.opcode]

/-- A word value that selects operation `op` under `OPMAP`: the first one bound to it. -/
def Config.codeOf (c : Config) (op : Op) : Option Nat :=
  (c.opmap.find? fun row => row.2 = op && c.decodeWord row.1 = op).map fun row => row.1

/-- The two words that the bits `x` of an instruction of `nbits` bits stand for, at width `w`: bit 0 is the least
significant bit of the first word, and the bits above `nbits` are 0. -/
def tableWords (w nbits x : Nat) : Nat × Nat :=
  let bits := x % 2 ^ nbits
  (bits % 2 ^ w, bits / 2 ^ w % 2 ^ w)

/-- The instruction the decoder of the reference core reads from the bits `x` of a row of spec/opcode_table.json,
whose words have `W = 8` bits there. -/
def decodeTableWord (nbits x : Nat) : Option Instr :=
  let ws := tableWords Config.reference.w nbits x
  match decode Config.reference [ws.1, ws.2] with
  | .ok (i, _) => some i
  | .error _ => none

end Sys2Proof
end

