-- ==== Sys2Proof/Machine/State.lean ====
section
/-! DEFINITION. The state of the machine (10_state.md), the ports of a STEP (00_scope.md R13), the ways a step stops,
and the state after reset. -/

namespace Sys2Proof.Machine

/-- The memory array as the words that are not 0, by address: the addresses strictly rising, no entry holding 0. An
address that is not listed reads as 0, which is what every address holds after reset (10_state.md R32). The canonical
form is `Memory.wf` of `Machine/Ops.lean`; see notes/assumptions/9.md. -/
abbrev Memory := List (Nat × Nat)

/-- The values of the `status` output (60_exceptions.md R150). -/
inductive Status where
  | ok | alreadyHalted | inputExhausted | cursorCollision | programTooLarge | emptyProgram
deriving DecidableEq, Repr

/-- The output signals one `STEP` drives (00_scope.md R13). -/
structure StepPort where
  status : Status
  stmtOpcode : Nat
  stmtHasPayload : Bool
  stmtPayload : Nat
  /-- `out_valid` and `out_word` in one: `none` is `out_valid = 0`, and the spec gives `out_word` no value then. -/
  outWord : Option Nat
  inAck : Bool
deriving DecidableEq, Repr

/-- The signal `out_valid` (00_scope.md R13). -/
def StepPort.outValid (p : StepPort) : Bool := p.outWord.isSome

/-- The state of the machine. -/
structure State where
  /-- The parameters the core was built with; no transaction changes them (10_state.md R29). -/
  cfg : Config
  /-- The memory array (10_state.md R20). -/
  mem : Memory
  /-- The program counter (10_state.md R21). -/
  pc : Nat
  /-- The stack pointer (10_state.md R22). -/
  sp : Nat
  /-- Set by a committed HALT (10_state.md R23). -/
  halted : Bool
  /-- Set by every committed step (10_state.md R24). -/
  started : Bool
  /-- The Statement of the last committed step (10_state.md R25). -/
  lastStatement : Option Stmt
  /-- The host's input channel, its head the next word (44_io.md R140; notes/assumptions/4.md). -/
  input : List Nat
  /-- The words given to the host's output channel, oldest first (44_io.md R141; notes/assumptions/4.md). -/
  output : List Nat
  /-- The model's own field: the outputs the last STEP drove (notes/assumptions/5.md). No rule reads it. -/
  port : Option StepPort
deriving DecidableEq, Repr

/-- The faults: the errors of a STEP that end a run (60_exceptions.md R161). A fault leaves every field of the state as
it was before the step (40_step_engine.md R89), so the state to go on from is the one the step was given. -/
inductive Fault where
  /-- `AlreadyHalted`: raised by `step` for every STEP issued while `halted = 1` (60_exceptions.md R151). Safe: the
  spec's own error. -/
  | alreadyHalted
  /-- `CursorCollision`: raised by every meaning, through `finish`, when `Collide` holds under the FAULT policy
  (60_exceptions.md R153). Safe: the spec's own error. -/
  | cursorCollision
deriving DecidableEq, Repr

/-- The refusals. -/
inductive Refusal where
  /-- Raised by an arm of `exec` for an instruction without a meaning. No arm does: every row of the table has its
  meaning. Safe. -/
  | notModelled (mnemonic : String)
deriving DecidableEq, Repr

/-- What a step answers. -/
abbrev Outcome := Host.Outcome State Fault Refusal

/-- The errors a STEP can end in (40_step_engine.md R88). -/
inductive StepError where
  | alreadyHalted | inputExhausted | cursorCollision
deriving DecidableEq, Repr

/-- The working copy `t` of a STEP with its bookkeeping fields (40_step_engine.md R80). -/
structure Work where
  st : State
  /-- `t.redirected`: the operation wrote `pc` (40_step_engine.md R84). -/
  redirected : Bool
  /-- `t.in_take`: the operation took the head of the input channel (44_io.md R140). -/
  inTake : Bool
  /-- `t.out`: the word for the output channel (44_io.md R141). -/
  out : Option Nat
deriving DecidableEq, Repr

/-- The state `POWER_ON` gives a core with parameters `c`, before the host has put a word into a channel
(70_reset_and_hazards.md R180, 10_state.md R32). -/
def State.init (c : Config) : State where
  cfg := c
  mem := []
  pc := 0
  sp := c.spInit
  halted := false
  started := false
  lastStatement := none
  input := []
  output := []
  port := none

/-- The machine right after reset (10_state.md R32), on the reference core (notes/assumptions/2.md). -/
def State.reset : State := State.init Config.reference

end Sys2Proof.Machine
end

