-- ==== Sys2Proof/Machine/Ops.lean ====
section
/-! DEFINITION. The named operations of the machine: normalisation and memory access (20_memory.md), the stack
primitives, the channels (44_io.md), the phases of a STEP after its fetch, the cursor collision detector and the one
way an error ends a step (40_step_engine.md, 60_exceptions.md). -/

namespace Sys2Proof.Machine

/-! ## Normalisation -/

/-- `word_of(x) = x mod 2^W` (20_memory.md R40). -/
def wordOf (c : Config) (x : Int) : Nat := (x % ((2 ^ c.w : Nat) : Int)).toNat

/-- `address_of(x) = x mod N` (20_memory.md R41). -/
def addressOf (c : Config) (x : Int) : Nat := (x % (c.n : Int)).toNat

/-! ## The memory array -/

/-- The word at an address that lies in the array; 0 where none is listed (10_state.md R32). -/
def Memory.read : Memory → Nat → Nat
  | [], _ => 0
  | (b, x) :: m, a => if a = b then x else Memory.read m a

/-- The array with word `v` at address `a`, in canonical form again. -/
def Memory.write : Memory → Nat → Nat → Memory
  | [], a, v => if v = 0 then [] else [(a, v)]
  | (b, x) :: m, a, v =>
    if a < b then (if v = 0 then (b, x) :: m else (a, v) :: (b, x) :: m)
    else if a = b then (if v = 0 then m else (a, v) :: m)
    else (b, x) :: Memory.write m a v

/-- The canonical form of the array of `N` words of `W` bits (10_state.md R20, R31): addresses strictly rising and below
`N`, words below `2^W`, no entry equal to what an unlisted address reads as. -/
abbrev Memory.wf (c : Config) (m : Memory) : Prop :=
  m.Pairwise (fun x y => x.1 < y.1) ∧ ∀ x ∈ m, x.1 < c.n ∧ x.2 < 2 ^ c.w ∧ x.2 ≠ 0

/-- `MemRead(a, 1)` (20_memory.md R42). -/
def State.read (s : State) (a : Int) : Nat := Memory.read s.mem (addressOf s.cfg a)

/-- `MemWrite(a, 1, v)` (20_memory.md R43). -/
def State.write (s : State) (a v : Int) : State :=
  { s with mem := Memory.write s.mem (addressOf s.cfg a) (wordOf s.cfg v) }

/-- A new value of `sp`, which passes through `address_of` (20_memory.md R41). -/
def State.setSp (s : State) (a : Int) : State := { s with sp := addressOf s.cfg a }

/-- A new value of `pc`, which passes through `address_of` (20_memory.md R41). -/
def State.setPc (s : State) (a : Int) : State := { s with pc := addressOf s.cfg a }

/-! ## The stack primitives -/

/-- `Push(v)`: write the free cell at `sp`, then move `sp` one cell down (20_memory.md R53). -/
def State.push (s : State) (v : Int) : State := (s.write s.sp v).setSp ((s.sp : Int) - 1)

/-- `Pop()`: move `sp` one cell up, then read that cell, which keeps its value (20_memory.md R54). -/
def State.pop (s : State) : Nat × State :=
  let t := s.setSp ((s.sp : Int) + 1)
  (t.read t.sp, t)

/-- `Top()` (20_memory.md R55). -/
def State.top (s : State) : Nat := s.read ((s.sp : Int) + 1)

/-- `Second()` (20_memory.md R55). -/
def State.second (s : State) : Nat := s.read ((s.sp : Int) + 2)

/-! ## The working copy -/

/-- The working copy at the start of a STEP (40_step_engine.md R80). -/
def Work.start (s : State) : Work := { st := s, redirected := false, inTake := false, out := none }

/-- `Push(v)` on the working copy (20_memory.md R53). -/
def Work.push (t : Work) (v : Int) : Work := { t with st := t.st.push v }

/-- `Pop()` on the working copy (20_memory.md R54). -/
def Work.pop (t : Work) : Nat × Work := (t.st.pop.1, { t with st := t.st.pop.2 })

/-- `MemWrite(a, 1, v)` on the working copy (20_memory.md R43). -/
def Work.write (t : Work) (a v : Int) : Work := { t with st := t.st.write a v }

/-- `pc <- target`: writes `address_of(target)` and marks the step as redirected (40_step_engine.md R84). -/
def Work.redirect (t : Work) (target : Int) : Work := { t with st := t.st.setPc target, redirected := true }

/-- `In()`: the head word of the input channel, marked as taken; the channel itself changes at commit only
(44_io.md R140). -/
def Work.takeInput (t : Work) : Except StepError (Nat × Work) :=
  match t.st.input with
  | [] => .error .inputExhausted
  | x :: _ => .ok (x, { t with inTake := true })

/-- `Out(v)`: queues `word_of(v)` for the output channel (44_io.md R141). -/
def Work.emit (t : Work) (v : Int) : Work := { t with out := some (wordOf t.st.cfg v) }

/-! ## The sequential advance and the cursor collision detector -/

/-- The sequential advance by the length `k`, unless the operation redirected `pc` (40_step_engine.md R85). -/
def Work.advance (t : Work) (s : State) (k : Nat) : Work :=
  if t.redirected then t else { t with st := t.st.setPc ((s.pc : Int) + k) }

/-- The gap `G = (sp - pc) mod N` (40_step_engine.md R86). -/
def State.gap (s : State) : Nat := addressOf s.cfg ((s.sp : Int) - s.pc)

/-- `Collide(s, t, op)`, on the pre-step state and the working copy after its advance (40_step_engine.md R86). -/
def collide (s : State) (t : Work) (op : Op) : Bool :=
  let g : Int := s.gap
  let k : Int := op.len
  let u : Int := op.reads
  let v : Int := op.writes
  let c1 := decide (g < k)
  let c2 := decide ((s.cfg.n : Int) ≤ g + u)
  let c3 := !t.redirected && decide (g - k + u - v ≤ 0)
  let c4 := t.redirected && decide (t.st.pc = t.st.sp)
  c1 || c2 || c3 || c4

/-- Whether the collision detector stops the step: it is evaluated under the FAULT policy only
(40_step_engine.md R87). -/
def stopsOnCollision (s : State) (t : Work) (op : Op) : Bool :=
  decide (s.cfg.policy = .fault) && collide s t op

/-! ## Errors -/

/-- The code of the `status` output (60_exceptions.md R150). -/
def Status.code : Status → BitVec 3
  | .ok => 0
  | .alreadyHalted => 1
  | .inputExhausted => 2
  | .cursorCollision => 3
  | .programTooLarge => 4
  | .emptyProgram => 5

/-- The status an error drives (60_exceptions.md R150). -/
def StepError.status : StepError → Status
  | .alreadyHalted => .alreadyHalted
  | .inputExhausted => .inputExhausted
  | .cursorCollision => .cursorCollision

/-- The status of a fault (60_exceptions.md R150). -/
def Fault.status : Fault → Status
  | .alreadyHalted => .alreadyHalted
  | .cursorCollision => .cursorCollision

/-- The outputs of a STEP whose status is not OK: all of them 0 (00_scope.md R13, 40_step_engine.md R89). -/
def errorPort (st : Status) : StepPort :=
  { status := st, stmtOpcode := 0, stmtHasPayload := false, stmtPayload := 0, outWord := none, inAck := false }

/-- The one way an error ends a step: it commits nothing, saves nothing and enters no handler (40_step_engine.md R89,
60_exceptions.md R160). `AlreadyHalted` and `CursorCollision` are faults; `InputExhausted` is a hold, which the host
lifts by supplying input: the next state differs from `s` in no field of the core, and only the driven outputs report it
(60_exceptions.md R161; notes/assumptions/6.md, 7.md). There is no return from an error (R161). -/
def raise (e : StepError) (s : State) : Outcome :=
  match e with
  | .alreadyHalted => .fault .alreadyHalted
  | .cursorCollision => .fault .cursorCollision
  | .inputExhausted => .next { s with port := some (errorPort e.status) }

/-! ## Commit -/

/-- The outputs of a committed step (00_scope.md R13, 30_encoding.md R69, 40_step_engine.md R92). -/
def commitPort (t : Work) (stmt : Stmt) : StepPort :=
  { status := .ok, stmtOpcode := stmt.opcode, stmtHasPayload := stmt.payload.isSome,
    stmtPayload := stmt.payload.getD 0, outWord := t.out, inAck := t.inTake }

/-- The committed state: `halted` set by HALT (40_step_engine.md R90), `started` and `last_statement` (R91), the
host's channels as `in_ack` and `out_valid` make it change them (R92). -/
def commit (t : Work) (op : Op) (stmt : Stmt) : State :=
  { t.st with
    halted := t.st.halted || decide (op = .halt)
    started := true
    lastStatement := some stmt
    input := if t.inTake then t.st.input.tail else t.st.input
    output := t.st.output ++ t.out.toList
    port := some (commitPort t stmt) }

/-- The phases after a successful `Exec`: the advance (40_step_engine.md R85), the collision check (R86, R87) and the
commit (R89 to R92). -/
def finish (s : State) (op : Op) (stmt : Stmt) (t : Work) : Outcome :=
  let t := t.advance s op.len
  if stopsOnCollision s t op then raise .cursorCollision s else .next (commit t op stmt)

/-- A STEP from its `Exec` phase on, for the operation `op` with effect `body` (40_step_engine.md R80, R84). The errors
come in phase order (R88). -/
def runOp (op : Op) (stmt : Stmt) (body : Work → Except StepError Work) (s : State) : Outcome :=
  match body (Work.start s) with
  | .error e => raise e s
  | .ok t => finish s op stmt t

/-- A STEP from its `Exec` phase on, for an operation that raises no error of its own (40_step_engine.md R84: only IN
does). -/
def runPure (op : Op) (stmt : Stmt) (body : Work → Work) (s : State) : Outcome :=
  finish s op stmt (body (Work.start s))

/-! ## Halt gate and fetch -/

/-- The halt gate: what a STEP answers before it fetches anything (40_step_engine.md R81). -/
def haltGate (s : State) : Option Outcome := if s.halted then some (raise .alreadyHalted s) else none

/-- Fetch, decode and operand fetch, all from the state as committed before the step (40_step_engine.md R82, R83;
20_memory.md R56). Reading the operand's cell has no effect where the format has no operand (20_memory.md R48). -/
def fetchInstr (s : State) : Instr :=
  let w0 := s.read s.pc
  Instr.ofOp (s.cfg.decodeWord w0) w0 (s.read ((s.pc : Int) + 1))

/-- `s` with the two words of an instruction stored where the next STEP fetches it, and able to fetch: `halted` is
cleared, since a halted core fetches nothing (40_step_engine.md R81; notes/assumptions/11.md). -/
def placeWords (s : State) (w0 opnd : Nat) : State :=
  { ((s.write ((s.pc : Int) + 1) opnd).write s.pc w0) with halted := false }

end Sys2Proof.Machine
end

