-- ==== Sys2Proof/Machine/Flags.lean ====
section
/-! DEFINITION. CORE has no flag register (10_state.md R28). What stands in a flag's place: the word a comparison
pushes, the test of a popped word, and the FSM state that the bits `halted` and `started` give (R26). -/

namespace Sys2Proof.Machine

/-- The word of a comparison: 1 for true, 0 for false (10_state.md R28). -/
def truthWord (b : Bool) : Nat := if b then 1 else 0

/-- The test of a conditional jump: only the exact value 0 is zero (10_state.md R28, 41_control_flow.md R102). -/
def isZeroWord (x : Nat) : Bool := decide (x = 0)

/-- The states of the single-step execute FSM (10_state.md R26). -/
inductive Fsm where
  | ready | running | halted
deriving DecidableEq, Repr

/-- The FSM state, derived from `halted` and `started`; no value for the combination that "cannot be reached"
(10_state.md R26; notes/assumptions/13.md). -/
def State.fsm (s : State) : Option Fsm :=
  match s.halted, s.started with
  | false, false => some .ready
  | false, true => some .running
  | true, true => some .halted
  | true, false => none

end Sys2Proof.Machine
end

