-- ==== Sys2Proof/Machine/Operands.lean ====
section
/-! DEFINITION. The operand forms: two stack operands and one stack operand with a result pushed back
(43_arith_logic.md R121), the inline operand as a value and as an address (30_encoding.md R61), and a popped word as an
address (41_control_flow.md R105, 42_stack_data.md R114, R115). -/

namespace Sys2Proof.Machine

/-- `BinOp(f)`: pop `b` (the top), pop `a` (the second), push `f(a, b)` (43_arith_logic.md R121). -/
def Work.binOp (f : Nat → Nat → Nat) (t : Work) : Work :=
  let b := t.pop
  let a := b.2.pop
  a.2.push (f a.1 b.1)

/-- `UnOp(f)`: pop `x`, push `f(x)` (43_arith_logic.md R121). -/
def Work.unOp (f : Nat → Nat) (t : Work) : Work :=
  let x := t.pop
  x.2.push (f x.1)

/-- Pop a word and redirect to the inline address if the word passes the test (41_control_flow.md R102, R103). -/
def Work.jumpIf (test : Nat → Bool) (opnd : Nat) (t : Work) : Work :=
  let c := t.pop
  if test c.1 then c.2.redirect opnd else c.2

end Sys2Proof.Machine
end

