-- ==== Sys2Proof/Machine/ArithLogic.lean ====
section
/-! DEFINITION. ADD, SUB, INC, DEC, AND, OR, XOR, NOT, EQ, LT and GT (43_arith_logic.md). Every operand is an
unsigned word; a result is computed exactly and reduced by `word_of` (R120). `a` is the second word of the stack and `b`
the top (R121). -/

namespace Sys2Proof.Machine

/-- ADD: `a + b` modulo `2^W` (43_arith_logic.md R122). -/
def execAdd (w0 : Nat) (s : State) : Outcome :=
  runPure .add ⟨w0, none⟩ (Work.binOp fun a b => wordOf s.cfg ((a : Int) + b)) s

/-- SUB: `a - b` modulo `2^W` (43_arith_logic.md R123). -/
def execSub (w0 : Nat) (s : State) : Outcome :=
  runPure .sub ⟨w0, none⟩ (Work.binOp fun a b => wordOf s.cfg ((a : Int) - b)) s

/-- INC: `x + 1` modulo `2^W` (43_arith_logic.md R124). -/
def execInc (w0 : Nat) (s : State) : Outcome :=
  runPure .inc ⟨w0, none⟩ (Work.unOp fun x => wordOf s.cfg ((x : Int) + 1)) s

/-- DEC: `x - 1` modulo `2^W` (43_arith_logic.md R125). -/
def execDec (w0 : Nat) (s : State) : Outcome :=
  runPure .dec ⟨w0, none⟩ (Work.unOp fun x => wordOf s.cfg ((x : Int) - 1)) s

/-- AND, bit by bit (43_arith_logic.md R126). -/
def execAnd (w0 : Nat) (s : State) : Outcome :=
  runPure .and ⟨w0, none⟩ (Work.binOp fun a b => Nat.land a b) s

/-- Inclusive OR, bit by bit (43_arith_logic.md R127). -/
def execOr (w0 : Nat) (s : State) : Outcome :=
  runPure .or ⟨w0, none⟩ (Work.binOp fun a b => Nat.lor a b) s

/-- Exclusive OR, bit by bit (43_arith_logic.md R128). -/
def execXor (w0 : Nat) (s : State) : Outcome :=
  runPure .xor ⟨w0, none⟩ (Work.binOp fun a b => Nat.xor a b) s

/-- NOT: `(2^W - 1) - x` (43_arith_logic.md R129). -/
def execNot (w0 : Nat) (s : State) : Outcome :=
  runPure .not ⟨w0, none⟩ (Work.unOp fun x => wordOf s.cfg (((2 ^ s.cfg.w : Nat) : Int) - 1 - x)) s

/-- EQ: 1 if `a = b`, else 0 (43_arith_logic.md R130). -/
def execEq (w0 : Nat) (s : State) : Outcome :=
  runPure .eq ⟨w0, none⟩ (Work.binOp fun a b => truthWord (decide (a = b))) s

/-- LT: 1 if `a < b` as unsigned integers, else 0 (43_arith_logic.md R131). -/
def execLt (w0 : Nat) (s : State) : Outcome :=
  runPure .lt ⟨w0, none⟩ (Work.binOp fun a b => truthWord (decide (a < b))) s

/-- GT: 1 if `a > b` as unsigned integers, else 0 (43_arith_logic.md R132). -/
def execGt (w0 : Nat) (s : State) : Outcome :=
  runPure .gt ⟨w0, none⟩ (Work.binOp fun a b => truthWord (decide (b < a))) s

end Sys2Proof.Machine
end

