-- ==== Sys2Proof/Machine/ControlFlow.lean ====
section
/-! DEFINITION. HALT, JMP, JZ, JNZ, CALL, RET and the inert word (41_control_flow.md). -/

namespace Sys2Proof.Machine

/-- HALT has no effect of its own; the commit sets `halted` (41_control_flow.md R100, 40_step_engine.md R90). -/
def execHalt (w0 : Nat) (s : State) : Outcome :=
  runPure .halt ⟨w0, none⟩ (fun t => t) s

/-- JMP: `pc <- opnd` (41_control_flow.md R101). -/
def execJmp (w0 opnd : Nat) (s : State) : Outcome :=
  runPure .jmp ⟨w0, some opnd⟩ (fun t => t.redirect opnd) s

/-- JZ: pop `c`; if `c = 0` then `pc <- opnd` (41_control_flow.md R102). -/
def execJz (w0 opnd : Nat) (s : State) : Outcome :=
  runPure .jz ⟨w0, some opnd⟩ (Work.jumpIf (fun c => isZeroWord c) opnd) s

/-- JNZ: pop `c`; if `c ≠ 0` then `pc <- opnd` (41_control_flow.md R103). -/
def execJnz (w0 opnd : Nat) (s : State) : Outcome :=
  runPure .jnz ⟨w0, some opnd⟩ (Work.jumpIf (fun c => !isZeroWord c) opnd) s

/-- CALL: push `word_of(address_of(pc + 2))`, then `pc <- opnd` (41_control_flow.md R104). -/
def execCall (w0 opnd : Nat) (s : State) : Outcome :=
  runPure .call ⟨w0, some opnd⟩
    (fun t => (t.push (wordOf s.cfg (addressOf s.cfg ((s.pc : Int) + 2)))).redirect opnd) s

/-- RET: pop `a`; `pc <- a` (41_control_flow.md R105). -/
def execRet (w0 : Nat) (s : State) : Outcome :=
  runPure .ret ⟨w0, none⟩ (fun t => t.pop.2.redirect t.pop.1) s

/-- A word with no binding is a one-word no-op (41_control_flow.md R106, 30_encoding.md R64). -/
def execInert (w0 : Nat) (s : State) : Outcome :=
  runPure .inert ⟨w0, none⟩ (fun t => t) s

end Sys2Proof.Machine
end

