-- ==== Sys2Proof/Machine/InputOutput.lean ====
section
/-! DEFINITION. IN and OUT (44_io.md). -/

namespace Sys2Proof.Machine

/-- IN: take the head word of the input channel and push it; an empty channel raises `InputExhausted` before the
collision check (44_io.md R142, 40_step_engine.md R88). -/
def execIn (w0 : Nat) (s : State) : Outcome :=
  runOp .in_ ⟨w0, none⟩
    (fun t =>
      match t.takeInput with
      | .error e => .error e
      | .ok (x, t) => .ok (t.push x)) s

/-- OUT: pop a word and give it to the output channel (44_io.md R143). -/
def execOut (w0 : Nat) (s : State) : Outcome :=
  runPure .out ⟨w0, none⟩ (fun t => t.pop.2.emit t.pop.1) s

end Sys2Proof.Machine
end

