-- ==== Sys2Proof/Machine/StackData.lean ====
section
/-! DEFINITION. PUSH, POP, DUP, SWAP, LD and ST (42_stack_data.md). -/

namespace Sys2Proof.Machine

/-- PUSH: `Push(opnd)` (42_stack_data.md R110). -/
def execPush (w0 opnd : Nat) (s : State) : Outcome :=
  runPure .push ⟨w0, some opnd⟩ (fun t => t.push opnd) s

/-- POP: the popped word is discarded (42_stack_data.md R111). -/
def execPop (w0 : Nat) (s : State) : Outcome :=
  runPure .pop ⟨w0, none⟩ (fun t => t.pop.2) s

/-- DUP: `Push(Top())` (42_stack_data.md R112). -/
def execDup (w0 : Nat) (s : State) : Outcome :=
  runPure .dup ⟨w0, none⟩ (fun t => t.push t.st.top) s

/-- SWAP: pop `b`, pop `a`, push `b`, push `a` (42_stack_data.md R113). -/
def execSwap (w0 : Nat) (s : State) : Outcome :=
  runPure .swap ⟨w0, none⟩
    (fun t =>
      let b := t.pop
      let a := b.2.pop
      (a.2.push b.1).push a.1) s

/-- LD: pop an address, push the word stored at it (42_stack_data.md R114). -/
def execLd (w0 : Nat) (s : State) : Outcome :=
  runPure .ld ⟨w0, none⟩
    (fun t =>
      let a := t.pop
      a.2.push (a.2.st.read a.1)) s

/-- ST: pop an address, pop a value, store the value at the address (42_stack_data.md R115). -/
def execSt (w0 : Nat) (s : State) : Outcome :=
  runPure .st ⟨w0, none⟩
    (fun t =>
      let a := t.pop
      let x := a.2.pop
      x.2.write a.1 x.1) s

end Sys2Proof.Machine
end

