-- ==== Sys2Proof/Machine/Dispatch.lean ====
section
/-! DEFINITION. The dispatch of an instruction to its meaning (40_step_engine.md R84): one arm per constructor. The meaning
is a STEP from its Exec phase on; the halt gate and the fetch stand in `step` (notes/assumptions/12.md). -/

namespace Sys2Proof.Machine

def exec (i : Instr) (s : State) : Host.Outcome State Fault Refusal :=
  match i with
  | .halt w0 => Sys2Proof.Machine.execHalt w0 s
  | .jmp w0 opnd => Sys2Proof.Machine.execJmp w0 opnd s
  | .jz w0 opnd => Sys2Proof.Machine.execJz w0 opnd s
  | .jnz w0 opnd => Sys2Proof.Machine.execJnz w0 opnd s
  | .call w0 opnd => Sys2Proof.Machine.execCall w0 opnd s
  | .ret w0 => Sys2Proof.Machine.execRet w0 s
  | .push w0 opnd => Sys2Proof.Machine.execPush w0 opnd s
  | .pop w0 => Sys2Proof.Machine.execPop w0 s
  | .dup w0 => Sys2Proof.Machine.execDup w0 s
  | .swap w0 => Sys2Proof.Machine.execSwap w0 s
  | .ld w0 => Sys2Proof.Machine.execLd w0 s
  | .st w0 => Sys2Proof.Machine.execSt w0 s
  | .add w0 => Sys2Proof.Machine.execAdd w0 s
  | .sub w0 => Sys2Proof.Machine.execSub w0 s
  | .inc w0 => Sys2Proof.Machine.execInc w0 s
  | .dec w0 => Sys2Proof.Machine.execDec w0 s
  | .and w0 => Sys2Proof.Machine.execAnd w0 s
  | .or w0 => Sys2Proof.Machine.execOr w0 s
  | .xor w0 => Sys2Proof.Machine.execXor w0 s
  | .not w0 => Sys2Proof.Machine.execNot w0 s
  | .eq w0 => Sys2Proof.Machine.execEq w0 s
  | .lt w0 => Sys2Proof.Machine.execLt w0 s
  | .gt w0 => Sys2Proof.Machine.execGt w0 s
  | .in_ w0 => Sys2Proof.Machine.execIn w0 s
  | .out w0 => Sys2Proof.Machine.execOut w0 s
  | .inert w0 => Sys2Proof.Machine.execInert w0 s

end Sys2Proof.Machine
end

