-- ==== Sys2Proof/Machine/Step.lean ====
section
/-! DEFINITION. The STEP transaction (40_step_engine.md R80) as the machine's step. -/

namespace Sys2Proof.Machine

/-- One STEP: the halt gate, the fetch and decode, then the instruction's meaning (40_step_engine.md R80 to R92). -/
def step (s : State) : Host.Outcome State Fault Refusal :=
  match haltGate s with
  | some o => o
  | none => exec (fetchInstr s) s

/-- `s` with the instruction whose bits are `x`, as spec/opcode_table.json numbers them, stored where `step` fetches its
next instruction (notes/assumptions/11.md). -/
def State.withFetchWord (s : State) (nbits x : Nat) : State :=
  placeWords s (tableWords s.cfg.w nbits x).1 (tableWords s.cfg.w nbits x).2

end Sys2Proof.Machine
end

