-- ==== Sys2Proof/Machine/Assembler.lean ====
section
/-! DEFINITION. The spec's own assembler (30_encoding.md R71, R72), from the characters of a source text to the words of
a program. It has no effect on the machine (92_eei_decisions.md D29). What R71 and R72 leave open is in
notes/assumptions/17.md. -/

namespace Sys2Proof.Machine

/-- Why a source text is not assembled. Safe: no words are emitted. -/
inductive AsmError where
  /-- A character or string literal that is not closed, or a character that is no byte. -/
  | badLiteral
  /-- A line that is no label, instruction, directive or pseudo-instruction of R71 and R72. -/
  | badStatement
  /-- An operand that starts with a digit and is no decimal or hexadecimal number. -/
  | badNumber
  /-- A label that no line defines. -/
  | undefinedLabel
  /-- A label that two lines define. -/
  | duplicateLabel
  /-- A mnemonic whose operation `OPMAP` binds to no word value. -/
  | unboundOperation
deriving DecidableEq, Repr

/-- A token of a line. -/
inductive AsmToken where
  | name (cs : List Char)
  | colon
  | chr (c : Char)
  | str (cs : List Char)
deriving DecidableEq, Repr

/-- An operand: a number or character literal, by its value, or a label (30_encoding.md R71). -/
inductive AsmOperand where
  | value (v : Nat)
  | label (name : List Char)
deriving DecidableEq, Repr

/-- What one line defines or emits (30_encoding.md R71, R72). -/
inductive AsmItem where
  | label (name : List Char)
  | instr (op : Op) (operand : Option AsmOperand)
  | word (operand : AsmOperand)
  | ascii (bytes : List Nat)
deriving DecidableEq, Repr

/-- The mnemonic of an operation (30_encoding.md R63); `INERT` is no mnemonic of the assembler. -/
def Op.mnemonic : Op → List Char
  | .halt => ['H', 'A', 'L', 'T']
  | .jmp => ['J', 'M', 'P']
  | .jz => ['J', 'Z']
  | .jnz => ['J', 'N', 'Z']
  | .call => ['C', 'A', 'L', 'L']
  | .ret => ['R', 'E', 'T']
  | .push => ['P', 'U', 'S', 'H']
  | .pop => ['P', 'O', 'P']
  | .dup => ['D', 'U', 'P']
  | .swap => ['S', 'W', 'A', 'P']
  | .ld => ['L', 'D']
  | .st => ['S', 'T']
  | .add => ['A', 'D', 'D']
  | .sub => ['S', 'U', 'B']
  | .inc => ['I', 'N', 'C']
  | .dec => ['D', 'E', 'C']
  | .and => ['A', 'N', 'D']
  | .or => ['O', 'R']
  | .xor => ['X', 'O', 'R']
  | .not => ['N', 'O', 'T']
  | .eq => ['E', 'Q']
  | .lt => ['L', 'T']
  | .gt => ['G', 'T']
  | .in_ => ['I', 'N']
  | .out => ['O', 'U', 'T']
  | .inert => []

/-- The operations with a mnemonic, in the order of 30_encoding.md R63. -/
def mnemonicOps : List Op := rb1.map fun row => row.2

/-- The operation of a mnemonic. -/
def opOfMnemonic (cs : List Char) : Option Op := mnemonicOps.find? fun op => decide (Op.mnemonic op = cs)

/-- The name token collected so far, its characters last first. -/
def asmFlush (acc : List Char) (ts : List AsmToken) : List AsmToken :=
  if acc.isEmpty then ts else .name acc.reverse :: ts

/-- The tokens of one line. `str` holds the characters of an open string literal and `acc` those of an open name, both
last first. A `;` outside a literal starts a comment (30_encoding.md R71). -/
def asmTokens (str : Option (List Char)) (acc : List Char) : List Char → Except AsmError (List AsmToken)
  | [] => if str.isSome then .error .badLiteral else .ok (asmFlush acc [])
  | c :: cs =>
    match str with
    | some body =>
      if c = '"' then (asmTokens none [] cs).map fun ts => .str body.reverse :: ts
      else asmTokens (some (c :: body)) [] cs
    | none =>
      if c = ';' then .ok (asmFlush acc [])
      else if c = ' ' ∨ c = '\t' ∨ c = '\r' then (asmTokens none [] cs).map fun ts => asmFlush acc ts
      else if c = ':' then (asmTokens none [] cs).map fun ts => asmFlush acc (.colon :: ts)
      else if c = '"' then (asmTokens (some []) [] cs).map fun ts => asmFlush acc ts
      else if c = '\'' then
        match cs with
        | x :: q :: rest =>
          if q = '\'' then (asmTokens none [] rest).map fun ts => asmFlush acc (.chr x :: ts)
          else .error .badLiteral
        | _ => .error .badLiteral
      else asmTokens none (c :: acc) cs

/-- The value of a digit in a number of the given base. -/
def asmDigit (base : Nat) (c : Char) : Option Nat :=
  let d :=
    if 48 ≤ c.toNat ∧ c.toNat ≤ 57 then c.toNat - 48
    else if 65 ≤ c.toNat ∧ c.toNat ≤ 70 then c.toNat - 55
    else if 97 ≤ c.toNat ∧ c.toNat ≤ 102 then c.toNat - 87
    else base
  if d < base then some d else none

/-- The value of a sequence of digits after the value `v` of those before it. -/
def asmDigits (base v : Nat) : List Char → Option Nat
  | [] => some v
  | c :: cs => (asmDigit base c).bind fun d => asmDigits base (v * base + d) cs

/-- A decimal number or a hexadecimal one written `0x..` (30_encoding.md R71). -/
def asmNumber : List Char → Option Nat
  | '0' :: 'x' :: c :: cs => asmDigits 16 0 (c :: cs)
  | c :: cs => asmDigits 10 0 (c :: cs)
  | [] => none

/-- The byte value of a character. -/
def asmByte (c : Char) : Except AsmError Nat := if c.toNat < 256 then .ok c.toNat else .error .badLiteral

/-- The byte values of a text, in order (30_encoding.md R72). -/
def asmBytes : List Char → Except AsmError (List Nat)
  | [] => .ok []
  | c :: cs =>
    match asmByte c, asmBytes cs with
    | .ok b, .ok bs => .ok (b :: bs)
    | .error e, _ => .error e
    | _, .error e => .error e

/-- An operand token; a name that starts with a digit is a number, any other a label (30_encoding.md R71). -/
def asmOperand : AsmToken → Except AsmError AsmOperand
  | .chr c => (asmByte c).map .value
  | .name [] => .error .badStatement
  | .name (c :: cs) =>
    if (asmDigit 10 c).isSome then
      match asmNumber (c :: cs) with
      | some v => .ok (.value v)
      | none => .error .badNumber
    else .ok (.label (c :: cs))
  | .colon => .error .badStatement
  | .str _ => .error .badStatement

/-- The statement after a line's label: an instruction (30_encoding.md R71), a directive or `NOP` (R72). -/
def asmStatement : List AsmToken → Except AsmError (List AsmItem)
  | [] => .ok []
  | [.name cs] =>
    if cs = ['N', 'O', 'P'] then .ok [.word (.value 0)]
    else
      match opOfMnemonic cs with
      | some op => if op.len = 1 then .ok [.instr op none] else .error .badStatement
      | none => .error .badStatement
  | [.name cs, x] =>
    if cs = ['.', 'a', 's', 'c', 'i', 'i'] then
      match x with
      | .str text => (asmBytes text).map fun bs => [.ascii bs]
      | _ => .error .badStatement
    else
      match asmOperand x with
      | .error e => .error e
      | .ok operand =>
        if cs = ['.', 'w', 'o', 'r', 'd'] then .ok [.word operand]
        else
          match opOfMnemonic cs with
          | some op => if op.len = 2 then .ok [.instr op (some operand)] else .error .badStatement
          | none => .error .badStatement
  | _ => .error .badStatement

/-- The items of one line: at most one label, then at most one statement (30_encoding.md R71). -/
def asmLine (cs : List Char) : Except AsmError (List AsmItem) :=
  match asmTokens none [] cs with
  | .error e => .error e
  | .ok (.name l :: .colon :: ts) => (asmStatement ts).map fun items => .label l :: items
  | .ok ts => asmStatement ts

/-- The lines of a text; `line` holds the characters of the open line, last first. -/
def asmLines (line : List Char) : List Char → List (List Char)
  | [] => [line.reverse]
  | c :: cs => if c = '\n' then line.reverse :: asmLines [] cs else asmLines (c :: line) cs

/-- The items of a sequence of lines. -/
def asmItems : List (List Char) → Except AsmError (List AsmItem)
  | [] => .ok []
  | l :: ls =>
    match asmLine l, asmItems ls with
    | .ok is, .ok js => .ok (is ++ js)
    | .error e, _ => .error e
    | _, .error e => .error e

/-- How many words an item emits. -/
def AsmItem.size : AsmItem → Nat
  | .label _ => 0
  | .instr op _ => op.len
  | .word _ => 1
  | .ascii bytes => bytes.length

/-- The labels of the items from address `a` on, each with the address of the next word emitted (30_encoding.md R71). -/
def asmLabels (a : Nat) : List AsmItem → List (List Char × Nat)
  | [] => []
  | .label l :: is => (l, a) :: asmLabels a is
  | i :: is => asmLabels (a + i.size) is

/-- The value of an operand, given the labels. -/
def AsmOperand.eval (labels : List (List Char × Nat)) : AsmOperand → Except AsmError Nat
  | .value v => .ok v
  | .label l =>
    match labels.find? (fun row => decide (row.1 = l)) with
    | some row => .ok row.2
    | none => .error .undefinedLabel

/-- The words of one item, each `word_of` its value (30_encoding.md R71, R72). -/
def AsmItem.emit (c : Config) (labels : List (List Char × Nat)) : AsmItem → Except AsmError (List Nat)
  | .label _ => .ok []
  | .word operand => (operand.eval labels).map fun v => [wordOf c v]
  | .ascii bytes => .ok (bytes.map fun (b : Nat) => wordOf c (b : Int))
  | .instr op operand =>
    match c.codeOf op, operand with
    | none, _ => .error .unboundOperation
    | some code, none => .ok [wordOf c code]
    | some code, some operand => (operand.eval labels).map fun v => [wordOf c code, wordOf c v]

/-- The words of a sequence of items. -/
def asmEmit (c : Config) (labels : List (List Char × Nat)) : List AsmItem → Except AsmError (List Nat)
  | [] => .ok []
  | i :: is =>
    match i.emit c labels, asmEmit c labels is with
    | .ok ws, .ok vs => .ok (ws ++ vs)
    | .error e, _ => .error e
    | _, .error e => .error e

/-- The assembler: the program of a source text, from address 0 on (30_encoding.md R71, R72). -/
def assembleText (c : Config) (text : List Char) : Except AsmError (List Nat) :=
  match asmItems (asmLines [] text) with
  | .error e => .error e
  | .ok items =>
    let labels := asmLabels 0 items
    if (labels.map fun row => row.1).Nodup then asmEmit c labels items else .error .duplicateLabel

end Sys2Proof.Machine
end

