-- ==== Sys2Proof/Machine/Transactions.lean ====
section
/-! DEFINITION. The construction of a core (00_scope.md R4) and the host's four transactions (R12): `POWER_ON`, `LOAD`,
`STEP` with its driven outputs, and `SNAPSHOT`; and the host's supply of input words (44_io.md R140). See
notes/assumptions/23.md. -/

namespace Sys2Proof.Machine

/-! ## Construction -/

/-- Why a core cannot be built. No core exists then, so no transaction can observe it (60_exceptions.md R156). -/
inductive BuildError where
  /-- `InvalidArchitecture`: `N = 0`, `W = 0` or `W > WMAX` (00_scope.md R4). -/
  | invalidArchitecture
  /-- The model's own name for a parameter `SP_INIT` outside `[0, N)`, which the spec excludes without naming an error
  (00_scope.md R6; notes/assumptions/15.md). -/
  | stackInitOutOfRange
deriving DecidableEq, Repr

/-- Building a core, which leaves it in the state of `POWER_ON` (00_scope.md R4, 70_reset_and_hazards.md R180). -/
def construct (c : Config) : Except BuildError State :=
  if c.n = 0 ∨ c.w = 0 ∨ c.wmax < c.w then .error .invalidArchitecture
  else if c.n ≤ c.spInit then .error .stackInitOutOfRange
  else .ok (State.init c)

/-! ## POWER_ON and LOAD -/

/-- The state of the core after `POWER_ON` or `LOAD`, with the given memory. The channels are the host's and stay as
they are (10_state.md R30; notes/assumptions/20.md). -/
def resetWith (m : Memory) (s : State) : State :=
  { State.init s.cfg with mem := m, input := s.input, output := s.output }

/-- `POWER_ON` (70_reset_and_hazards.md R180). -/
def powerOn (s : State) : State := resetWith [] s

/-- The memory that holds a program's words from address `a` on and 0 elsewhere (70_reset_and_hazards.md R181). -/
def programMemory (c : Config) : Nat → List Nat → Memory
  | _, [] => []
  | a, x :: p =>
    if wordOf c x = 0 then programMemory c (a + 1) p else (a, wordOf c x) :: programMemory c (a + 1) p

/-- `LOAD(program)`, in any FSM state: its status and the state after it (70_reset_and_hazards.md R181 to R183). -/
def load (p : List Nat) (s : State) : Status × State :=
  if p.length = 0 then (.emptyProgram, s)
  else if s.cfg.n < p.length then (.programTooLarge, s)
  else (.ok, resetWith (programMemory s.cfg 0 p) s)

/-! ## STEP with its outputs -/

/-- The `STEP` transaction as the host sees it: the outputs it drives and the state after it, which a fault leaves as it
was (40_step_engine.md R80, R89; 60_exceptions.md R160). -/
def stepTransaction (s : State) : Option StepPort × State :=
  match step s with
  | .next t => (t.port, t)
  | .fault f => (some (errorPort f.status), s)
  | .refused _ => (none, s)

/-! ## SNAPSHOT -/

/-- The record `SNAPSHOT` returns (60_exceptions.md R166). -/
structure Snapshot where
  pc : Nat
  sp : Nat
  halted : Bool
  lastStatement : Option Stmt
  memoryPcSide : List Nat
  memorySpSide : List Nat
deriving DecidableEq, Repr

/-- The `len` words from address `a` on. -/
def State.readRange (s : State) (a len : Nat) : List Nat :=
  (List.range len).map fun (j : Nat) => s.read ((a : Int) + (j : Int))

/-- `SNAPSHOT`: the pc side is `mem[0..sp]`, the sp side `mem[sp+1..N-1]` (60_exceptions.md R166). -/
def snapshot (s : State) : Snapshot where
  pc := s.pc
  sp := s.sp
  halted := s.halted
  lastStatement := s.lastStatement
  memoryPcSide := s.readRange 0 (s.sp + 1)
  memorySpSide := s.readRange (s.sp + 1) (s.cfg.n - 1 - s.sp)

/-! ## The four transactions together -/

/-- The transactions of the host (00_scope.md R12). -/
inductive Transaction where
  | powerOn
  | load (p : List Nat)
  | step
  | snapshot
deriving DecidableEq, Repr

/-- What a transaction gives the host (00_scope.md R13, R14, R15). -/
inductive Reply where
  | nothing
  | load (status : Status)
  | step (port : Option StepPort)
  | snapshot (snap : Snapshot)
deriving DecidableEq, Repr

/-- One transaction: its reply and the state after it. -/
def transact (x : Transaction) (s : State) : Reply × State :=
  match x with
  | .powerOn => (.nothing, powerOn s)
  | .load p => (.load (load p s).1, (load p s).2)
  | .step => (.step (stepTransaction s).1, (stepTransaction s).2)
  | .snapshot => (.snapshot (snapshot s), s)

/-- The host appends words to the input channel between transactions; of wider data it presents `word_of`
(44_io.md R140). -/
def supplyInput (ws : List Int) (s : State) : State :=
  { s with input := s.input ++ ws.map (wordOf s.cfg) }

end Sys2Proof.Machine
end

