-- ==== Sys2Proof/Machine/Loader.lean ====
section
/-! DEFINITION. The contract of the host's Program loader (30_encoding.md R70). The loader is host software, not CORE
(00_scope.md R3); only its contract from bytes to words is here. -/

namespace Sys2Proof.Machine

/-- The loader's failures (30_encoding.md R70, 60_exceptions.md R157). -/
inductive LoaderError where
  | sourceReadError
  | emptyProgram
deriving DecidableEq, Repr

/-- The default of `TERMINATOR` (00_scope.md R9). -/
def defaultTerminator : Byte := 0x0A

/-- The bytes without their last one, when `STRIP_TERMINATOR` is set and the last byte is `TERMINATOR`
(30_encoding.md R70). -/
def stripTerminator (strip : Bool) (terminator : Byte) (bytes : List Byte) : List Byte :=
  if strip && decide (bytes.getLast? = some terminator) then bytes.dropLast else bytes

/-- The words of a program text; `none` is a source that cannot be read in full (30_encoding.md R70;
notes/assumptions/16.md). -/
def loadProgramText (c : Config) (strip : Bool) (terminator : Byte) (source : Option (List Byte)) :
    Except LoaderError (List Nat) :=
  match source with
  | none => .error .sourceReadError
  | some bytes =>
    let words := (stripTerminator strip terminator bytes).map fun b => wordOf c (b.toNat : Int)
    if words.isEmpty then .error .emptyProgram else .ok words

end Sys2Proof.Machine
end

