-- ==== Sys2Proof/WellFormed.lean ====
section
/-! DEFINITION. Which instructions are well formed on a core with given parameters. -/

namespace Sys2Proof

/-- The operand word, where there is one, is a `W`-bit word (30_encoding.md R61). -/
abbrev Instr.operandFits (c : Config) (i : Instr) : Prop := ∀ x ∈ i.payload, x < 2 ^ c.w

/-- An instruction is well formed when its opcode word is a `W`-bit word, that word is bound to the instruction's
operation (30_encoding.md R62, R63), and its operand is a `W`-bit word (R61). -/
abbrev Instr.wf (c : Config) (i : Instr) : Prop :=
  i.opcode < 2 ^ c.w ∧ c.decodeWord i.opcode = i.op ∧ i.operandFits c

end Sys2Proof
end

