-- ==== Sys2Proof/Safety.lean ====
section
/-! DEFINITION. The terms the statements use: the invariants of 10_state.md R31, the runs and their ends
(70_reset_and_hazards.md R186), and the conditions under which an operation commits (R187). -/

namespace Sys2Proof.Machine

/-! ## Invariants -/

/-- A Statement's words are `W`-bit words (20_memory.md R40). -/
abbrev Stmt.fits (c : Config) (x : Stmt) : Prop :=
  x.opcode < 2 ^ c.w ∧ ∀ y ∈ x.payload, y < 2 ^ c.w

/-- The invariants of 10_state.md R31, with the canonical form of the memory array, and with the words of the last
Statement and of the channels in their range (20_memory.md R40, 44_io.md R140, R141). -/
abbrev State.wf (s : State) : Prop :=
  s.cfg.valid ∧ Memory.wf s.cfg s.mem ∧ s.pc < s.cfg.n ∧ s.sp < s.cfg.n ∧ (s.halted = true → s.started = true)
    ∧ (∀ x ∈ s.lastStatement, Stmt.fits s.cfg x)
    ∧ (∀ x ∈ s.input, x < 2 ^ s.cfg.w) ∧ (∀ x ∈ s.output, x < 2 ^ s.cfg.w)

/-- What a halted core holds: the HALT Statement is its last one (60_exceptions.md R168). -/
abbrev State.haltedAfterHalt (s : State) : Prop :=
  s.halted = true → ∃ x ∈ s.lastStatement, s.cfg.decodeWord x.opcode = .halt ∧ x.payload = none

/-! ## Runs -/

/-- `k` STEPs one after the other, up to the first fault. -/
def runSteps : Nat → State → Outcome
  | 0, s => .next s
  | k + 1, s =>
    match step s with
    | .next t => runSteps k t
    | .fault f => .fault f
    | .refused r => .refused r

/-- The next STEP is an `IN` for which the host has no input (70_reset_and_hazards.md R186). -/
def State.held (s : State) : Prop := s.halted = false ∧ (fetchInstr s).op = .in_ ∧ s.input = []

/-- The run ends well: a STEP commits HALT (70_reset_and_hazards.md R186), which leaves `halted = 1`; a state that is halted
already is the end of such a run. -/
def EndsWell (s : State) : Prop := ∃ k t, runSteps k s = .next t ∧ t.halted = true

/-- The run ends badly: a STEP returns `CursorCollision` (70_reset_and_hazards.md R186). -/
def EndsBadly (s : State) : Prop := ∃ k, runSteps k s = .fault .cursorCollision

/-- The run is held at a STEP that returns `InputExhausted` (70_reset_and_hazards.md R186). -/
def IsHeld (s : State) : Prop := ∃ k t, runSteps k s = .next t ∧ t.held

/-- The run is a hang: an infinite run of committed steps (70_reset_and_hazards.md R186). -/
def Hangs (s : State) : Prop := ∀ k, ∃ t, runSteps k s = .next t ∧ t.halted = false ∧ ¬ t.held

/-! ## Effects and conditions -/

/-- The bookkeeping of a committed step with Statement `x` (40_step_engine.md R89 to R92, 00_scope.md R13): the parameters
as before, `started` set, the Statement recorded and driven; `out` is what it gives the output channel and `ack` whether it
consumed the head of the input channel. -/
def Committed (s t : State) (x : Stmt) (out : Option Nat) (ack : Bool) : Prop :=
  t.cfg = s.cfg ∧ t.started = true ∧ t.lastStatement = some x
    ∧ t.input = (if ack then s.input.tail else s.input) ∧ t.output = s.output ++ out.toList
    ∧ t.port = some { status := .ok, stmtOpcode := x.opcode, stmtHasPayload := x.payload.isSome,
                      stmtPayload := x.payload.getD 0, outWord := out, inAck := ack }

/-- What every address reads as, when the cell at `at'` alone is set to `v`. -/
def State.readWith (s : State) (at' : Int) (v : Nat) (a : Int) : Nat :=
  if addressOf s.cfg a = addressOf s.cfg at' then v else s.read a

/-- The gap is in a range, wherever the collision detector runs (70_reset_and_hazards.md R187: "Under `TOLERATE` policy,
no condition applies"). `hi` is what the table subtracts from `N` in the upper bound. -/
abbrev GapBetween (s : State) (lo hi : Nat) : Prop :=
  s.cfg.policy = .fault → lo ≤ s.gap ∧ s.gap + hi ≤ s.cfg.n

/-- The gap has a lower bound only, wherever the collision detector runs (70_reset_and_hazards.md R187). -/
abbrev GapAtLeast (s : State) (lo : Nat) : Prop := s.cfg.policy = .fault → lo ≤ s.gap

/-- A redirected `pc` does not land on the new `sp`, wherever the collision detector runs
(70_reset_and_hazards.md R187). -/
abbrev TargetClear (s : State) (target newSp : Int) : Prop :=
  s.cfg.policy = .fault → addressOf s.cfg target ≠ addressOf s.cfg newSp

/-- The table of 70_reset_and_hazards.md R187: the condition, on the pre-step state alone, under which an instruction
commits. -/
def CommitCondition (i : Instr) (s : State) : Prop :=
  match i with
  | .halt _ | .inert _ => GapAtLeast s 2
  | .jmp _ opnd => GapAtLeast s 2 ∧ TargetClear s opnd s.sp
  | .jz _ opnd => GapBetween s 2 2 ∧ (s.top = 0 → TargetClear s opnd ((s.sp : Int) + 1))
  | .jnz _ opnd => GapBetween s 2 2 ∧ (s.top ≠ 0 → TargetClear s opnd ((s.sp : Int) + 1))
  | .call _ opnd => GapAtLeast s 2 ∧ TargetClear s opnd ((s.sp : Int) - 1)
  | .ret _ => GapBetween s 1 2 ∧ TargetClear s s.top ((s.sp : Int) + 1)
  | .push _ _ => GapAtLeast s 4
  | .pop _ | .out _ => GapBetween s 1 2
  | .dup _ => GapBetween s 3 2
  | .swap _ => GapBetween s 2 3
  | .ld _ | .inc _ | .dec _ | .not _ => GapBetween s 2 2
  | .st _ | .add _ | .sub _ | .and _ | .or _ | .xor _ | .eq _ | .lt _ | .gt _ => GapBetween s 1 3
  | .in_ _ => GapAtLeast s 3

/-- What an instruction does, in full. Where the condition of 70_reset_and_hazards.md R187 holds, it completes, and the
next state is told field by field: `halted`, `pc`, `sp`, what EVERY address reads as (`mem`), and the bookkeeping
(`Committed`: the parameters, `started`, the Statement, both channels and the driven outputs). Where the condition does not
hold, the STEP faults with `CursorCollision` (40_step_engine.md R87). -/
def CommitsTo (i : Instr) (s : State) (halted : Bool) (pc sp : Int) (out : Option Nat) (ack : Bool)
    (mem : Int → Nat) : Prop :=
  (CommitCondition i s → ∃ t, exec i s = .next t ∧ Committed s t i.stmt out ack ∧ t.halted = halted
      ∧ t.pc = addressOf s.cfg pc ∧ t.sp = addressOf s.cfg sp ∧ ∀ a, t.read a = mem a)
    ∧ (¬ CommitCondition i s → exec i s = .fault .cursorCollision)

/-- What a one-word instruction that leaves `halted`, the channels and the output alone does, when it moves `sp` to
`sp'` and sets the one cell at `at'` to `v` (the stack effect of 43_arith_logic.md R121). -/
def SetsCell (i : Instr) (s : State) (sp' at' : Int) (v : Nat) : Prop :=
  CommitsTo i s s.halted ((s.pc : Int) + 1) sp' none false (s.readWith at' v)

end Sys2Proof.Machine
end

