-- ==== Sys2Proof/Certificates/Slice0/Obligations.lean ====
section
/-! DEFINITION. The statements for the provers. Each names the rules of spec/ it formalises. Rules are those of the section
files; "log <n>" is notes/assumptions/<n>.md. -/

open Sys2Proof Sys2Proof.Machine

/-! ## Encoding -/

/-- 30_encoding.md R60, R61, R65: an instruction's words decode to it, whatever follows them, on every core. -/
def Obligations.DecodeEncodeRoundTrip : Prop :=
  ∀ (c : Config) (i : Instr) (rest : List Nat), i.wf c → decode c (encode i ++ rest) = .ok (i, rest)

/-- 30_encoding.md R60 to R62: what the decoder reads from `W`-bit words is well formed, and its words are exactly the
words read. -/
def Obligations.DecodedWordsAreTheEncoding : Prop :=
  ∀ (c : Config) (ws : List Nat) (i : Instr) (rest : List Nat), (∀ x ∈ ws, x < 2 ^ c.w) →
    decode c ws = .ok (i, rest) → i.wf c ∧ ws = encode i ++ rest

/-- 30_encoding.md R62, R65, R68: two words always decode, the operation is the one `OPMAP` gives the first word, and
the length is 2 exactly for JMP, JZ, JNZ, CALL and PUSH, whatever the second word is. -/
def Obligations.DecodingIsTotalAndLengthComesFromTheOpcode : Prop :=
  ∀ (c : Config) (w0 x : Nat) (rest : List Nat), ∃ i,
    i.op = c.decodeWord w0 ∧ i.opcode = w0 ∧
    decode c (w0 :: x :: rest) = .ok (i, if c.decodeWord w0 = .jmp ∨ c.decodeWord w0 = .jz ∨ c.decodeWord w0 = .jnz
      ∨ c.decodeWord w0 = .call ∨ c.decodeWord w0 = .push then rest else x :: rest)

/-- 30_encoding.md R63, R64, R67: under RB-1 the 25 codes are distinct and each selects its own operation, every other
value is inert, and which operations are reached depends on the width as R67 says. -/
def Obligations.ReferenceBindingAndItsReach : Prop :=
  (rb1.map fun row => row.1).Nodup ∧ (∀ row ∈ rb1, rb1.lookup row.1 = row.2 ∧ row.2 ≠ .inert)
    ∧ rb1.length = 25 ∧ (rb1.map fun row => row.2).Nodup
    ∧ (∀ x, (∀ row ∈ rb1, row.1 ≠ x) → rb1.lookup x = .inert)
    ∧ (∀ w, 7 ≤ w → ∀ op, ∃ x, x < 2 ^ w ∧ rb1.lookup x = op)
    ∧ (∀ op, (∃ x, x < 2 ^ 6 ∧ rb1.lookup x = op) ↔ op ∈ [Op.add, .sub, .and, .eq, .lt, .gt, .inert])
    ∧ (∀ w, w ≤ 5 → ∀ x, x < 2 ^ w → rb1.lookup x = .inert)

/-- Words written out from 30_encoding.md R63 decode to their instructions. -/
def Obligations.SampleWordsDecode : Prop :=
  decodeTableWord 8 0b01001000 = some (.halt 0x48) ∧ decodeTableWord 16 0b0000100101000011 = some (.call 0x43 9)
    ∧ decodeTableWord 16 0b0100100001010000 = some (.push 0x50 0x48) ∧ decodeTableWord 8 0b01010011 = some (.st 0x53)
    ∧ decodeTableWord 8 0b00101101 = some (.sub 0x2D) ∧ decodeTableWord 8 0b01111110 = some (.not 0x7E)
    ∧ decodeTableWord 8 0b01001001 = some (.in_ 0x49) ∧ decodeTableWord 8 0b01001111 = some (.out 0x4F)
    ∧ decodeTableWord 8 0 = some (.inert 0)

/-! ## Memory and the stack primitives -/

/-- 20_memory.md R40, R41: `word_of` and `address_of` are the residues modulo `2^W` and `N`, in range and idempotent. -/
def Obligations.NormalisationIsModular : Prop :=
  (∀ (c : Config) (x : Int), wordOf c x < 2 ^ c.w ∧ (wordOf c x : Int) = x % ((2 ^ c.w : Nat) : Int)
      ∧ wordOf c (wordOf c x) = wordOf c x)
    ∧ ∀ (c : Config) (x : Int), 1 ≤ c.n → addressOf c x < c.n ∧ (addressOf c x : Int) = x % (c.n : Int)
      ∧ addressOf c (addressOf c x) = addressOf c x

/-- 20_memory.md R43: MemWrite sets exactly one word, at `address_of(a)`, to `word_of(v)`, and no other state. -/
def Obligations.MemWriteSetsExactlyOneWord : Prop :=
  ∀ (s : State) (a v : Int), s.wf →
    (∀ b, (s.write a v).read b = s.readWith a (wordOf s.cfg v) b)
      ∧ s.write a v = { s with mem := (s.write a v).mem } ∧ (s.write a v).wf

/-- 20_memory.md R53, R54, R55: Push writes the free cell and moves `sp` down; Pop moves `sp` up, reads that cell and
leaves memory alone; Top and Second move nothing; a Pop after a Push gives the word back. -/
def Obligations.StackPrimitives : Prop :=
  ∀ (s : State) (v : Int), s.wf →
    (s.push v).sp = addressOf s.cfg ((s.sp : Int) - 1)
      ∧ (∀ a, (s.push v).read a = s.readWith s.sp (wordOf s.cfg v) a)
      ∧ s.pop.2.sp = addressOf s.cfg ((s.sp : Int) + 1) ∧ s.pop.1 = s.read ((s.sp : Int) + 1) ∧ s.pop.2.mem = s.mem
      ∧ s.top = s.read ((s.sp : Int) + 1) ∧ s.second = s.read ((s.sp : Int) + 2)
      ∧ (s.push v).pop.1 = wordOf s.cfg v ∧ (s.push v).pop.2.sp = s.sp

/-! ## Control flow -/

/-- 41_control_flow.md R100. -/
def Obligations.HaltStopsTheMachine : Prop :=
  ∀ (s : State) (w0 : Nat), s.wf → CommitsTo (.halt w0) s true ((s.pc : Int) + 1) s.sp none false s.read

/-- 41_control_flow.md R106. -/
def Obligations.InertWordIsANoOp : Prop :=
  ∀ (s : State) (w0 : Nat), s.wf → CommitsTo (.inert w0) s s.halted ((s.pc : Int) + 1) s.sp none false s.read

/-- 41_control_flow.md R101. -/
def Obligations.JmpGoesToTheOperand : Prop :=
  ∀ (s : State) (w0 opnd : Nat), s.wf → CommitsTo (.jmp w0 opnd) s s.halted opnd s.sp none false s.read

/-- 41_control_flow.md R102, R103: the word is popped either way; JZ jumps on 0 exactly, JNZ on every other word. -/
def Obligations.ConditionalJumpsTestThePoppedWord : Prop :=
  ∀ (s : State) (w0 opnd : Nat), s.wf →
    CommitsTo (.jz w0 opnd) s s.halted (if s.read ((s.sp : Int) + 1) = 0 then (opnd : Int) else (s.pc : Int) + 2)
        ((s.sp : Int) + 1) none false s.read
      ∧ CommitsTo (.jnz w0 opnd) s s.halted (if s.read ((s.sp : Int) + 1) = 0 then (s.pc : Int) + 2 else (opnd : Int))
        ((s.sp : Int) + 1) none false s.read

/-- 41_control_flow.md R104: the pushed word is `word_of(address_of(pc + 2))`. -/
def Obligations.CallPushesTheReturnAddress : Prop :=
  ∀ (s : State) (w0 opnd : Nat), s.wf →
    CommitsTo (.call w0 opnd) s s.halted opnd ((s.sp : Int) - 1) none false
      (s.readWith s.sp (wordOf s.cfg (addressOf s.cfg ((s.pc : Int) + 2))))

/-- 41_control_flow.md R105. -/
def Obligations.RetGoesToThePoppedWord : Prop :=
  ∀ (s : State) (w0 : Nat), s.wf →
    CommitsTo (.ret w0) s s.halted (s.read ((s.sp : Int) + 1)) ((s.sp : Int) + 1) none false s.read

/-- Derived from 41_control_flow.md R104 and R105: a RET right after a CALL restores `sp`, and returns to the word after
the CALL's operand where that address fits in a word, to its residue modulo `2^W` in general. -/
def Obligations.RetAfterCallReturnsModWordSize : Prop :=
  ∀ (s t u : State) (w0 opnd w1 : Nat), s.wf → exec (.call w0 opnd) s = .next t → exec (.ret w1) t = .next u →
    u.sp = s.sp ∧ u.pc = addressOf s.cfg (addressOf s.cfg ((s.pc : Int) + 2) % 2 ^ s.cfg.w : Nat)
      ∧ (s.cfg.n ≤ 2 ^ s.cfg.w → u.pc = addressOf s.cfg ((s.pc : Int) + 2))

/-! ## Stack and data movement -/

/-- 42_stack_data.md R110: every operand word is pushed unchanged. -/
def Obligations.PushPushesTheOperand : Prop :=
  ∀ (s : State) (w0 opnd : Nat), s.wf → opnd < 2 ^ s.cfg.w →
    CommitsTo (.push w0 opnd) s s.halted ((s.pc : Int) + 2) ((s.sp : Int) - 1) none false (s.readWith s.sp opnd)

/-- 42_stack_data.md R111: POP moves `sp` and nothing else; the popped cell keeps its value. -/
def Obligations.PopDiscardsTheTop : Prop :=
  ∀ (s : State) (w0 : Nat), s.wf →
    CommitsTo (.pop w0) s s.halted ((s.pc : Int) + 1) ((s.sp : Int) + 1) none false s.read

/-- 42_stack_data.md R112. -/
def Obligations.DupCopiesTheTop : Prop :=
  ∀ (s : State) (w0 : Nat), s.wf → SetsCell (.dup w0) s ((s.sp : Int) - 1) s.sp (s.read ((s.sp : Int) + 1))

/-- 42_stack_data.md R113: the two top words change places and every other word stays, also where the two cells are one
(`N = 1`) or the second is `sp` itself (`N = 2`). -/
def Obligations.SwapExchangesTheTwoTopWords : Prop :=
  ∀ (s : State) (w0 : Nat), s.wf →
    CommitsTo (.swap w0) s s.halted ((s.pc : Int) + 1) s.sp none false fun a =>
      if addressOf s.cfg a = addressOf s.cfg ((s.sp : Int) + 1) then s.read ((s.sp : Int) + 2)
      else if addressOf s.cfg a = addressOf s.cfg ((s.sp : Int) + 2) then s.read ((s.sp : Int) + 1)
      else s.read a

/-- 42_stack_data.md R114: the top word is replaced by the word at the address it names. -/
def Obligations.LdReplacesTheAddressByItsWord : Prop :=
  ∀ (s : State) (w0 : Nat), s.wf → SetsCell (.ld w0) s s.sp ((s.sp : Int) + 1) (s.read (s.read ((s.sp : Int) + 1)))

/-- 42_stack_data.md R115: the one cell stored to is the one the top word names, its value the second word. -/
def Obligations.StStoresTheSecondWordAtTheTopAddress : Prop :=
  ∀ (s : State) (w0 : Nat), s.wf →
    SetsCell (.st w0) s ((s.sp : Int) + 2) (s.read ((s.sp : Int) + 1)) (s.read ((s.sp : Int) + 2))

/-- 20_memory.md R56, 42_stack_data.md R115: an ST into the cell after itself changes the next instruction fetched. -/
def Obligations.StoreIntoTheNextInstructionIsFetched : Prop :=
  ∀ (s t : State) (w0 : Nat), s.wf → addressOf s.cfg (s.read ((s.sp : Int) + 1)) = addressOf s.cfg ((s.pc : Int) + 1) →
    exec (.st w0) s = .next t →
    (fetchInstr t).opcode = s.read ((s.sp : Int) + 2) ∧ (fetchInstr t).op = s.cfg.decodeWord (s.read ((s.sp : Int) + 2))

/-! ## Arithmetic and logic: `a` is the second word, `b` the top -/

/-- 43_arith_logic.md R122, R123 with the stack effect of R121: sum and difference modulo `2^W`. -/
def Obligations.AddAndSubAreModular : Prop :=
  ∀ (s : State) (w0 : Nat), s.wf →
    SetsCell (.add w0) s ((s.sp : Int) + 1) ((s.sp : Int) + 2)
        ((s.read ((s.sp : Int) + 2) + s.read ((s.sp : Int) + 1)) % 2 ^ s.cfg.w)
      ∧ SetsCell (.sub w0) s ((s.sp : Int) + 1) ((s.sp : Int) + 2)
        ((s.read ((s.sp : Int) + 2) + (2 ^ s.cfg.w - s.read ((s.sp : Int) + 1))) % 2 ^ s.cfg.w)

/-- 43_arith_logic.md R126, R127, R128, bit by bit: the word pushed has the bits the rule gives it. -/
def Obligations.BitwiseOperationsWorkOnEachBit : Prop :=
  ∀ (s : State) (w0 : Nat), s.wf →
    (∃ r, r < 2 ^ s.cfg.w
        ∧ (∀ j < s.cfg.w, r.testBit j = true ↔ (s.read ((s.sp : Int) + 2)).testBit j = true ∧ (s.read ((s.sp : Int) + 1)).testBit j = true)
        ∧ SetsCell (.and w0) s ((s.sp : Int) + 1) ((s.sp : Int) + 2) r)
      ∧ (∃ r, r < 2 ^ s.cfg.w
        ∧ (∀ j < s.cfg.w, r.testBit j = true ↔ (s.read ((s.sp : Int) + 2)).testBit j = true ∨ (s.read ((s.sp : Int) + 1)).testBit j = true)
        ∧ SetsCell (.or w0) s ((s.sp : Int) + 1) ((s.sp : Int) + 2) r)
      ∧ (∃ r, r < 2 ^ s.cfg.w
        ∧ (∀ j < s.cfg.w, r.testBit j = true ↔ (s.read ((s.sp : Int) + 2)).testBit j ≠ (s.read ((s.sp : Int) + 1)).testBit j)
        ∧ SetsCell (.xor w0) s ((s.sp : Int) + 1) ((s.sp : Int) + 2) r)

/-- 43_arith_logic.md R130, R131, R132: the comparisons are unsigned and push 1 or 0. -/
def Obligations.ComparisonsPushOneOrZero : Prop :=
  ∀ (s : State) (w0 : Nat), s.wf →
    SetsCell (.eq w0) s ((s.sp : Int) + 1) ((s.sp : Int) + 2)
        (if s.read ((s.sp : Int) + 2) = s.read ((s.sp : Int) + 1) then 1 else 0)
      ∧ SetsCell (.lt w0) s ((s.sp : Int) + 1) ((s.sp : Int) + 2)
        (if s.read ((s.sp : Int) + 2) < s.read ((s.sp : Int) + 1) then 1 else 0)
      ∧ SetsCell (.gt w0) s ((s.sp : Int) + 1) ((s.sp : Int) + 2)
        (if s.read ((s.sp : Int) + 1) < s.read ((s.sp : Int) + 2) then 1 else 0)

/-- 43_arith_logic.md R124, R125, R129: the unary operations replace the top in place. -/
def Obligations.UnaryOperationsWorkInPlace : Prop :=
  ∀ (s : State) (w0 : Nat), s.wf →
    SetsCell (.inc w0) s s.sp ((s.sp : Int) + 1) ((s.read ((s.sp : Int) + 1) + 1) % 2 ^ s.cfg.w)
      ∧ SetsCell (.dec w0) s s.sp ((s.sp : Int) + 1) ((s.read ((s.sp : Int) + 1) + (2 ^ s.cfg.w - 1)) % 2 ^ s.cfg.w)
      ∧ SetsCell (.not w0) s s.sp ((s.sp : Int) + 1) (2 ^ s.cfg.w - 1 - s.read ((s.sp : Int) + 1))

/-! ## I/O -/

/-- 44_io.md R142 with an empty channel, 60_exceptions.md R152: a hold, in which only the driven outputs change. That a
hold is a next state and no fault is the spec's decision D27 (60_exceptions.md R161; log 6). -/
def Obligations.InOnAnEmptyChannelHolds : Prop :=
  ∀ (s : State) (w0 : Nat), s.input = [] →
    exec (.in_ w0) s = .next { s with port := some { status := .inputExhausted, stmtOpcode := 0, stmtHasPayload := false,
                                                     stmtPayload := 0, outWord := none, inAck := false } }

/-- 44_io.md R142 with a word available: the head is pushed and consumed, and is no payload. -/
def Obligations.InPushesTheHeadOfTheChannel : Prop :=
  ∀ (s : State) (w0 x : Nat) (rest : List Nat), s.wf → s.input = x :: rest →
    CommitsTo (.in_ w0) s s.halted ((s.pc : Int) + 1) ((s.sp : Int) - 1) none true (s.readWith s.sp x)

/-- 44_io.md R143: the popped word is emitted. -/
def Obligations.OutEmitsThePoppedWord : Prop :=
  ∀ (s : State) (w0 : Nat), s.wf →
    CommitsTo (.out w0) s s.halted ((s.pc : Int) + 1) ((s.sp : Int) + 1) (some (s.read ((s.sp : Int) + 1))) false s.read

/-- 60_exceptions.md R161, 40_step_engine.md R94: a held core stays held while nothing comes, and once the host supplies
words the retried IN commits, under the condition of 70_reset_and_hazards.md R187, with the first of them.
That the hold is a next state is log 6 (DEDUCED). -/
def Obligations.SuppliedInputLiftsTheHold : Prop :=
  ∀ (s : State) (x : Int) (xs : List Int), s.wf → s.held →
    (∃ t, step s = .next t ∧ t.held ∧ t = { s with port := t.port })
      ∧ (GapAtLeast s 3 → ∃ t, step (supplyInput (x :: xs) s) = .next t ∧ t.input = xs.map (wordOf s.cfg)
        ∧ t.read s.sp = wordOf s.cfg x)

/-! ## The STEP transaction -/

/-- 40_step_engine.md R80, R82, R83: where the words at `pc` decode to an instruction, that instruction is well formed,
and a STEP of a core that is not halted is its meaning. -/
def Obligations.StepRunsTheFetchedInstruction : Prop :=
  ∀ (s : State) (i : Instr) (rest : List Nat), s.wf → s.halted = false →
    decode s.cfg [s.read s.pc, s.read ((s.pc : Int) + 1)] = .ok (i, rest) → i.wf s.cfg ∧ step s = exec i s

/-- 40_step_engine.md R81, 60_exceptions.md R151: a halted core answers AlreadyHalted and changes nothing. -/
def Obligations.HaltGateChangesNothing : Prop :=
  ∀ s : State, s.halted = true → step s = .fault .alreadyHalted
    ∧ stepTransaction s = (some { status := .alreadyHalted, stmtOpcode := 0, stmtHasPayload := false, stmtPayload := 0,
                                  outWord := none, inAck := false }, s)

/-- 40_step_engine.md R88 with the table of 70_reset_and_hazards.md R187: the status of every STEP, from the state before
it alone. The four conditions exclude each other and cover every state. -/
def Obligations.StatusOfEveryStep : Prop :=
  ∀ s : State, s.wf → ∃ p t, stepTransaction s = (some p, t) ∧
    (s.halted = true → p.status = .alreadyHalted)
    ∧ (s.halted = false → (fetchInstr s).op = .in_ ∧ s.input = [] → p.status = .inputExhausted)
    ∧ (s.halted = false → ¬ ((fetchInstr s).op = .in_ ∧ s.input = []) → ¬ CommitCondition (fetchInstr s) s →
        p.status = .cursorCollision)
    ∧ (s.halted = false → ¬ ((fetchInstr s).op = .in_ ∧ s.input = []) → CommitCondition (fetchInstr s) s →
        p.status = .ok)

/-- 40_step_engine.md R89, 60_exceptions.md R160, 00_scope.md R13: a STEP whose status is not OK changes no field but the
model's record of the driven outputs, and drives 0 on every output. -/
def Obligations.AnErrorCommitsNothing : Prop :=
  ∀ (s t : State) (p : StepPort), stepTransaction s = (some p, t) → p.status ≠ .ok →
    t = { s with port := t.port } ∧ p = { status := p.status, stmtOpcode := 0, stmtHasPayload := false, stmtPayload := 0,
                                          outWord := none, inAck := false }

/-- 40_step_engine.md R91, 30_encoding.md R69: a committed STEP records and drives the word fetched at `pc` and, for an
operation of length 2, the word after it, both as they were before the step. -/
def Obligations.CommittedStatementIsTheFetchedWords : Prop :=
  ∀ (s t : State) (p : StepPort), stepTransaction s = (some p, t) → p.status = .ok →
    t.started = true
      ∧ t.lastStatement = some ⟨s.read s.pc,
          if (s.cfg.decodeWord (s.read s.pc)).len = 2 then some (s.read ((s.pc : Int) + 1)) else none⟩
      ∧ p.stmtOpcode = s.read s.pc ∧ p.stmtHasPayload = decide ((s.cfg.decodeWord (s.read s.pc)).len = 2)
      ∧ p.stmtPayload = (if (s.cfg.decodeWord (s.read s.pc)).len = 2 then s.read ((s.pc : Int) + 1) else 0)

/-- 40_step_engine.md R90, 10_state.md R23: a STEP leaves `halted` set exactly when it commits HALT. -/
def Obligations.OnlyHaltSetsHalted : Prop :=
  ∀ s t : State, step s = .next t → (t.halted = true ↔ s.cfg.decodeWord (s.read s.pc) = .halt)

/-- 40_step_engine.md R92: the head of the input channel goes exactly where `in_ack` is driven, a word is appended to the
output channel exactly where `out_valid` is; only a committed IN drives the one and only a committed OUT the other. -/
def Obligations.ChannelsChangeAsDriven : Prop :=
  ∀ (s t : State) (p : StepPort), stepTransaction s = (some p, t) →
    t.input = (if p.inAck then s.input.tail else s.input) ∧ t.output = s.output ++ p.outWord.toList
      ∧ (p.inAck = true ↔ p.status = .ok ∧ (fetchInstr s).op = .in_)
      ∧ (p.outValid = true ↔ p.status = .ok ∧ (fetchInstr s).op = .out)

/-- 30_encoding.md R66: a committed instruction moves `sp` by `u - v`, and writes no cell but the `v` cells from
`sp + u - v + 1` on; ST writes the one cell the top word names, which is no stack access. -/
def Obligations.StackEffectIsAsTheTableSays : Prop :=
  ∀ (s t : State) (i : Instr), s.wf → exec i s = .next t → (i.op = .in_ → s.input ≠ []) →
    t.sp = addressOf s.cfg ((s.sp : Int) + i.op.reads - i.op.writes)
      ∧ ∀ a, (∀ j < i.op.writes, addressOf s.cfg a ≠ addressOf s.cfg ((s.sp : Int) + i.op.reads - i.op.writes + 1 + j)) →
        (i.op = .st → addressOf s.cfg a ≠ addressOf s.cfg (s.read ((s.sp : Int) + 1))) → t.read a = s.read a

/-- 30_encoding.md R66: an instruction reads no memory but the `u` cells from `sp + 1` on and, for LD, the cell the top word
names. Two states that differ in memory only, and agree on those cells, get the same outcome but for memory, and the same
words in every cell the instruction writes. -/
def Obligations.OnlyTheStackOperandsAreRead : Prop :=
  ∀ (s : State) (m : Memory) (i : Instr), s.wf → Memory.wf s.cfg m → (i.op = .in_ → s.input ≠ []) →
    (∀ j < i.op.reads, ({ s with mem := m } : State).read ((s.sp : Int) + 1 + j) = s.read ((s.sp : Int) + 1 + j)) →
    (i.op = .ld → ({ s with mem := m } : State).read (s.read ((s.sp : Int) + 1)) = s.read (s.read ((s.sp : Int) + 1))) →
    (∀ t, exec i s = .next t → ∃ t', exec i { s with mem := m } = .next t' ∧ t' = { t with mem := t'.mem }
        ∧ ∀ a, (∃ j < i.op.writes, addressOf s.cfg a = addressOf s.cfg ((s.sp : Int) + i.op.reads - i.op.writes + 1 + j))
            ∨ (i.op = .st ∧ addressOf s.cfg a = addressOf s.cfg (s.read ((s.sp : Int) + 1))) → t'.read a = t.read a)
      ∧ (∀ f, exec i s = .fault f → exec i { s with mem := m } = .fault f)

/-- 40_step_engine.md R94: the input channel bears on a STEP through its head alone, and on a STEP whose operation is not
IN not at all. -/
def Obligations.OnlyInReadsTheInputChannel : Prop :=
  ∀ (s : State) (ys : List Nat),
    ((fetchInstr s).op ≠ .in_ →
        stepTransaction { s with input := ys } = ((stepTransaction s).1, { (stepTransaction s).2 with input := ys }))
      ∧ ∀ x xs, s.input = x :: xs → ∀ t, step s = .next t → (fetchInstr s).op = .in_ →
        step { s with input := x :: ys } = .next { t with input := ys }

/-- 40_step_engine.md R87: under TOLERATE no STEP ends in CursorCollision, and every STEP of a core that is not halted
answers a next state. That the hold of an IN on an empty channel is such a next state is the model's reading of
60_exceptions.md R161 and decision D27 (log 6, DEDUCED), and not R87's. -/
def Obligations.TolerateNeverCollides : Prop :=
  ∀ s : State, s.cfg.policy = .tolerate → step s ≠ .fault .cursorCollision ∧ (s.halted = false → ∃ t, step s = .next t)

/-- 40_step_engine.md R86, its consequence for `G = 0`: where the cursors are equal before the step, every instruction
collides under FAULT. -/
def Obligations.MeetingCursorsAlwaysCollide : Prop :=
  ∀ (s : State) (i : Instr), s.wf → s.cfg.policy = .fault → s.pc = s.sp → (i.op = .in_ → s.input ≠ []) →
    exec i s = .fault .cursorCollision

/-- 30_encoding.md R68: no word traps when decoded, and no STEP is refused. -/
def Obligations.NoStepIsRefused : Prop :=
  ∀ (s : State) (r : Refusal), step s ≠ .refused r

/-! ## Invariants -/

/-- 10_state.md R31: every STEP keeps the invariants of the state, from every state that has them. -/
def Obligations.StepKeepsTheStateInvariants : Prop :=
  ∀ s t : State, s.wf → step s = .next t → t.wf ∧ t.cfg = s.cfg

/-- 10_state.md R31, R32: the state after reset has the invariants; it holds no HALT Statement, being not halted. -/
def Obligations.ResetHasTheStateInvariants : Prop :=
  State.reset.wf ∧ State.reset.haltedAfterHalt

/-- 10_state.md R31: the host's other transactions, and its supply of input, keep the invariants. -/
def Obligations.HostTransactionsKeepTheStateInvariants : Prop :=
  ∀ s : State, s.wf → (powerOn s).wf ∧ (∀ p, (load p s).2.wf) ∧ (∀ ws, (supplyInput ws s).wf)
    ∧ (transact .snapshot s).2 = s

/-- 10_state.md R31: under FAULT no committed STEP leaves `pc = sp`. -/
def Obligations.NoCommittedStepMakesTheCursorsMeet : Prop :=
  ∀ (s t : State) (p : StepPort), s.wf → s.cfg.policy = .fault → stepTransaction s = (some p, t) → p.status = .ok →
    t.pc ≠ t.sp

/-- 60_exceptions.md R168: every STEP keeps it that a halted core's last Statement is the HALT Statement. -/
def Obligations.HaltedCoreHoldsTheHaltStatement : Prop :=
  ∀ s t : State, s.haltedAfterHalt → step s = .next t → t.haltedAfterHalt

/-- 40_step_engine.md R93: the transitions of the FSM. -/
def Obligations.FsmTransitions : Prop :=
  ∀ s : State,
    (transact .powerOn s).2.fsm = some .ready
    ∧ (∀ p, (transact (.load p) s).1 = .load .ok → (transact (.load p) s).2.fsm = some .ready)
    ∧ (∀ p, (transact (.load p) s).1 ≠ .load .ok → (transact (.load p) s).2.fsm = s.fsm)
    ∧ (transact .snapshot s).2.fsm = s.fsm
    ∧ (s.fsm = some .halted → (transact .step s).2.fsm = some .halted
        ∧ (stepTransaction s).1.map (fun p => p.status) = some .alreadyHalted)
    ∧ (s.fsm = some .ready ∨ s.fsm = some .running → ∀ p, (stepTransaction s).1 = some p →
        (p.status = .ok → (transact .step s).2.fsm =
            if s.cfg.decodeWord (s.read s.pc) = .halt then some .halted else some .running)
        ∧ (p.status ≠ .ok → (transact .step s).2.fsm = s.fsm))

/-! ## Runs -/

/-- 70_reset_and_hazards.md R186: a run ends well, ends badly, is held, or is a hang, and only one of the four.
That a held STEP is a next state is the model's reading of 60_exceptions.md R161 (log 6, DEDUCED). -/
def Obligations.ARunEndsInExactlyOneWay : Prop :=
  ∀ s : State, (EndsWell s ∨ EndsBadly s ∨ IsHeld s ∨ Hangs s)
    ∧ ¬ (EndsWell s ∧ EndsBadly s) ∧ ¬ (EndsWell s ∧ IsHeld s) ∧ ¬ (EndsWell s ∧ Hangs s)
    ∧ ¬ (EndsBadly s ∧ IsHeld s) ∧ ¬ (EndsBadly s ∧ Hangs s) ∧ ¬ (IsHeld s ∧ Hangs s)

/-- 41_control_flow.md R101: a JMP to itself never collides once it commits, and is a hang
(70_reset_and_hazards.md R186). -/
def Obligations.JumpToItselfHangs : Prop :=
  ∀ (s : State) (w0 opnd : Nat), s.wf → s.halted = false → fetchInstr s = .jmp w0 opnd → addressOf s.cfg opnd = s.pc →
    GapAtLeast s 2 → Hangs s

/-! ## Construction, reset, load and observation -/

/-- 00_scope.md R4, 60_exceptions.md R156: construction fails with InvalidArchitecture for `N = 0`, `W = 0` or
`W > WMAX`. That it does so for nothing else, an `SP_INIT` out of range having an error of its own, is the MODEL's choice
(log 15, DESIGN CHOICE; 00_scope.md R6 names no error). With `SP_INIT` in range it otherwise builds a core in its power-on state, with every invariant. -/
def Obligations.ConstructionChecksTheArchitecture : Prop :=
  ∀ c : Config,
    (construct c = .error .invalidArchitecture ↔ c.n = 0 ∨ c.w = 0 ∨ c.wmax < c.w)
      ∧ (c.valid → ∃ s, construct c = .ok s ∧ s.cfg = c ∧ s.wf ∧ powerOn s = s)

/-- 70_reset_and_hazards.md R180, 10_state.md R32: `POWER_ON` sets every piece of state and keeps the parameters. -/
def Obligations.PowerOnSetsEveryPieceOfState : Prop :=
  ∀ s : State, (∀ a, (powerOn s).read a = 0) ∧ (powerOn s).pc = 0 ∧ (powerOn s).sp = s.cfg.spInit
    ∧ (powerOn s).halted = false ∧ (powerOn s).started = false ∧ (powerOn s).lastStatement = none
    ∧ (powerOn s).cfg = s.cfg

/-- The machine right after reset. The values of the fields are 10_state.md R32's; the defaults of `WMAX`, `SP_INIT`,
`COLLISION_POLICY` and `OPMAP` are 00_scope.md R5 to R8's; `N = 16` and `W = 8` are the MODEL's choice (log 2). -/
def Obligations.ResetStateIsPowerOnOfTheReferenceCore : Prop :=
  State.reset = powerOn State.reset ∧ State.reset.pc = 0 ∧ State.reset.sp = 15 ∧ State.reset.halted = false
    ∧ State.reset.started = false ∧ State.reset.lastStatement = none ∧ (∀ a, State.reset.read a = 0)
    ∧ State.reset.cfg = { n := 16, w := 8, wmax := 64, spInit := 15, policy := .fault, opmap := rb1 }

/-- 70_reset_and_hazards.md R181, R183, 60_exceptions.md R154, R155: LOAD writes the program from address 0 on,
zero-fills the rest and resets the rest of the state; an empty or too long program changes nothing. -/
def Obligations.LoadPlacesTheProgramAndResets : Prop :=
  ∀ (p : List Nat) (s : State), s.wf →
    (p.length = 0 → load p s = (.emptyProgram, s))
      ∧ (s.cfg.n < p.length → load p s = (.programTooLarge, s))
      ∧ (1 ≤ p.length → p.length ≤ s.cfg.n → (load p s).1 = .ok
        ∧ (∀ a : Nat, a < s.cfg.n → (load p s).2.read a = (p[a]?.map fun x => wordOf s.cfg x).getD 0)
        ∧ (load p s).2.pc = 0 ∧ (load p s).2.sp = s.cfg.spInit ∧ (load p s).2.halted = false
        ∧ (load p s).2.started = false ∧ (load p s).2.lastStatement = none ∧ (load p s).2.cfg = s.cfg)

/-- 70_reset_and_hazards.md R182: a successful LOAD leaves nothing of the earlier run, in whatever FSM state it is issued;
the channels are the host's (log 20). -/
def Obligations.LoadForgetsTheEarlierRun : Prop :=
  ∀ (p : List Nat) (s s' : State), s.cfg = s'.cfg → s.input = s'.input → s.output = s'.output → (load p s).1 = .ok →
    load p s = load p s'

/-- 60_exceptions.md R166: SNAPSHOT gives the cursors, `halted`, the last Statement and the two sides of memory, which
joined are `mem[0 .. N-1]`, and changes no state. -/
def Obligations.SnapshotShowsTheWholeMemory : Prop :=
  ∀ s : State, s.wf →
    transact .snapshot s = (.snapshot (snapshot s), s)
      ∧ (snapshot s).pc = s.pc ∧ (snapshot s).sp = s.sp ∧ (snapshot s).halted = s.halted
      ∧ (snapshot s).lastStatement = s.lastStatement
      ∧ (snapshot s).memoryPcSide.length = s.sp + 1 ∧ (snapshot s).memorySpSide.length = s.cfg.n - 1 - s.sp
      ∧ ∀ a : Nat, a < s.cfg.n → ((snapshot s).memoryPcSide ++ (snapshot s).memorySpSide)[a]? = some (s.read a)

/-- 60_exceptions.md R150: the codes of the `status` output; 6 and 7 are never driven. -/
def Obligations.StatusCodes : Prop :=
  Status.ok.code = 0 ∧ Status.alreadyHalted.code = 1 ∧ Status.inputExhausted.code = 2 ∧ Status.cursorCollision.code = 3
    ∧ Status.programTooLarge.code = 4 ∧ Status.emptyProgram.code = 5 ∧ ∀ x : Status, x.code ≠ 6 ∧ x.code ≠ 7

/-- 30_encoding.md R70: the loader drops one trailing terminator where it is told to, maps each byte to its word, and
fails on an empty or unreadable program. -/
def Obligations.LoaderContract : Prop :=
  ∀ (c : Config) (strip : Bool) (terminator : Byte),
    loadProgramText c strip terminator none = .error .sourceReadError
      ∧ (∀ bytes : List Byte, bytes ≠ [] → (strip = false ∨ bytes.getLast? ≠ some terminator) →
        loadProgramText c strip terminator (some bytes) = .ok (bytes.map fun b => b.toNat % 2 ^ c.w))
      ∧ (∀ bytes : List Byte, bytes ≠ [] → strip = true →
        loadProgramText c strip terminator (some (bytes ++ [terminator])) = .ok (bytes.map fun b => b.toNat % 2 ^ c.w))
      ∧ loadProgramText c strip terminator (some []) = .error .emptyProgram
      ∧ loadProgramText c true terminator (some [terminator]) = .error .emptyProgram

/-- 30_encoding.md R71, R72: the spec's example of a line, the pseudo-instruction `NOP`, and a label before and after its
use. The last text has a statement on its label's line with no blank after the colon, which R71 does not decide: it is the
MODEL's choice (log 17, DESIGN CHOICE). -/
def Obligations.AssemblerExamples : Prop :=
  assembleText Config.reference ['P', 'U', 'S', 'H', ' ', '2'] = .ok [0x50, 0x02]
    ∧ assembleText Config.reference ['N', 'O', 'P'] = .ok [0x00] ∧ Config.reference.decodeWord 0x00 = .inert
    ∧ assembleText Config.reference ['a', ':', ' ', 'J', 'M', 'P', ' ', 'b', '\n', 'b', ':', 'J', 'Z', ' ', 'a'] =
      .ok [0x4A, 0x02, 0x5A, 0x00]
end

