-- ==== Sys2Proof/Laws/Decode.lean ====
section
/-! SUPPORT. The decoder and `OPMAP`. -/

namespace Sys2Proof

@[simp] theorem Instr.ofOp_op (op : Op) (w0 opnd : Nat) : (Instr.ofOp op w0 opnd).op = op := by
  cases op <;> rfl

@[simp] theorem Instr.ofOp_opcode (op : Op) (w0 opnd : Nat) : (Instr.ofOp op w0 opnd).opcode = w0 := by
  cases op <;> rfl

theorem Instr.ofOp_payload (op : Op) (w0 opnd : Nat) :
    (Instr.ofOp op w0 opnd).payload = if op.len = 2 then some opnd else none := by
  cases op <;> rfl

/-- A length is 1 or 2 (30_encoding.md R60). -/
theorem Op.len_eq_one_or_two (op : Op) : op.len = 1 ∨ op.len = 2 := by
  cases op <;> simp [Op.len]

/-- An instruction has an operand word exactly where its length is 2. -/
theorem Instr.payload_isSome_iff (i : Instr) : i.payload.isSome = true ↔ i.op.len = 2 := by
  cases i <;> simp [Instr.payload, Instr.op, Op.len]

/-- An operation reads and writes at most two stack cells (30_encoding.md R63). -/
theorem Op.reads_writes_le (op : Op) : op.reads ≤ 2 ∧ op.writes ≤ 2 := by
  cases op <;> simp [Op.reads, Op.writes]

/-- A binding put in front: it gives its own word value its operation and leaves the others. -/
theorem OpMap.lookup_cons (x : Nat) (op : Op) (m : OpMap) (y : Nat) :
    OpMap.lookup ((x, op) :: m) y = if y = x then op else OpMap.lookup m y := rfl

/-- Every function from the word values below `k` to operations is given by some list of bindings, so the parameter
`OPMAP` of 00_scope.md R8 loses nothing by being a list (notes/assumptions/3.md). -/
theorem OpMap.exists_of_function (f : Nat → Op) (k : Nat) : ∃ m : OpMap, ∀ x < k, OpMap.lookup m x = f x := by
  induction k with
  | zero => exact ⟨[], fun x hx => absurd hx (Nat.not_lt_zero x)⟩
  | succ k ih =>
    obtain ⟨m, hm⟩ := ih
    refine ⟨(k, f k) :: m, fun x hx => ?_⟩
    rw [OpMap.lookup_cons]
    split
    · next h => rw [h]
    · next h => exact hm x (by omega)

end Sys2Proof
end

