-- ==== Sys2Proof/Laws/State.lean ====
section
/-! SUPPORT. For every update of the state, of the working copy and of the committed state, what each field holds after
it. -/

namespace Sys2Proof.Machine

/-! ## `State.write` -/

@[simp] theorem State.write_cfg (s : State) (a v : Int) : (s.write a v).cfg = s.cfg := rfl
@[simp] theorem State.write_mem (s : State) (a v : Int) : (s.write a v).mem = Memory.write s.mem (addressOf s.cfg a) (wordOf s.cfg v) := rfl
@[simp] theorem State.write_pc (s : State) (a v : Int) : (s.write a v).pc = s.pc := rfl
@[simp] theorem State.write_sp (s : State) (a v : Int) : (s.write a v).sp = s.sp := rfl
@[simp] theorem State.write_halted (s : State) (a v : Int) : (s.write a v).halted = s.halted := rfl
@[simp] theorem State.write_started (s : State) (a v : Int) : (s.write a v).started = s.started := rfl
@[simp] theorem State.write_lastStatement (s : State) (a v : Int) : (s.write a v).lastStatement = s.lastStatement := rfl
@[simp] theorem State.write_input (s : State) (a v : Int) : (s.write a v).input = s.input := rfl
@[simp] theorem State.write_output (s : State) (a v : Int) : (s.write a v).output = s.output := rfl
@[simp] theorem State.write_port (s : State) (a v : Int) : (s.write a v).port = s.port := rfl

/-! ## `State.setSp` -/

@[simp] theorem State.setSp_cfg (s : State) (a : Int) : (s.setSp a).cfg = s.cfg := rfl
@[simp] theorem State.setSp_mem (s : State) (a : Int) : (s.setSp a).mem = s.mem := rfl
@[simp] theorem State.setSp_pc (s : State) (a : Int) : (s.setSp a).pc = s.pc := rfl
@[simp] theorem State.setSp_sp (s : State) (a : Int) : (s.setSp a).sp = addressOf s.cfg a := rfl
@[simp] theorem State.setSp_halted (s : State) (a : Int) : (s.setSp a).halted = s.halted := rfl
@[simp] theorem State.setSp_started (s : State) (a : Int) : (s.setSp a).started = s.started := rfl
@[simp] theorem State.setSp_lastStatement (s : State) (a : Int) : (s.setSp a).lastStatement = s.lastStatement := rfl
@[simp] theorem State.setSp_input (s : State) (a : Int) : (s.setSp a).input = s.input := rfl
@[simp] theorem State.setSp_output (s : State) (a : Int) : (s.setSp a).output = s.output := rfl
@[simp] theorem State.setSp_port (s : State) (a : Int) : (s.setSp a).port = s.port := rfl

/-! ## `State.setPc` -/

@[simp] theorem State.setPc_cfg (s : State) (a : Int) : (s.setPc a).cfg = s.cfg := rfl
@[simp] theorem State.setPc_mem (s : State) (a : Int) : (s.setPc a).mem = s.mem := rfl
@[simp] theorem State.setPc_pc (s : State) (a : Int) : (s.setPc a).pc = addressOf s.cfg a := rfl
@[simp] theorem State.setPc_sp (s : State) (a : Int) : (s.setPc a).sp = s.sp := rfl
@[simp] theorem State.setPc_halted (s : State) (a : Int) : (s.setPc a).halted = s.halted := rfl
@[simp] theorem State.setPc_started (s : State) (a : Int) : (s.setPc a).started = s.started := rfl
@[simp] theorem State.setPc_lastStatement (s : State) (a : Int) : (s.setPc a).lastStatement = s.lastStatement := rfl
@[simp] theorem State.setPc_input (s : State) (a : Int) : (s.setPc a).input = s.input := rfl
@[simp] theorem State.setPc_output (s : State) (a : Int) : (s.setPc a).output = s.output := rfl
@[simp] theorem State.setPc_port (s : State) (a : Int) : (s.setPc a).port = s.port := rfl

/-! ## `State.push` -/

@[simp] theorem State.push_cfg (s : State) (v : Int) : (s.push v).cfg = s.cfg := rfl
@[simp] theorem State.push_mem (s : State) (v : Int) : (s.push v).mem = Memory.write s.mem (addressOf s.cfg s.sp) (wordOf s.cfg v) := rfl
@[simp] theorem State.push_pc (s : State) (v : Int) : (s.push v).pc = s.pc := rfl
@[simp] theorem State.push_sp (s : State) (v : Int) : (s.push v).sp = addressOf s.cfg ((s.sp : Int) - 1) := rfl
@[simp] theorem State.push_halted (s : State) (v : Int) : (s.push v).halted = s.halted := rfl
@[simp] theorem State.push_started (s : State) (v : Int) : (s.push v).started = s.started := rfl
@[simp] theorem State.push_lastStatement (s : State) (v : Int) : (s.push v).lastStatement = s.lastStatement := rfl
@[simp] theorem State.push_input (s : State) (v : Int) : (s.push v).input = s.input := rfl
@[simp] theorem State.push_output (s : State) (v : Int) : (s.push v).output = s.output := rfl
@[simp] theorem State.push_port (s : State) (v : Int) : (s.push v).port = s.port := rfl

/-! ## `State.pop` -/

@[simp] theorem State.pop_cfg (s : State) : (s.pop.2).cfg = s.cfg := rfl
@[simp] theorem State.pop_mem (s : State) : (s.pop.2).mem = s.mem := rfl
@[simp] theorem State.pop_pc (s : State) : (s.pop.2).pc = s.pc := rfl
@[simp] theorem State.pop_sp (s : State) : (s.pop.2).sp = addressOf s.cfg ((s.sp : Int) + 1) := rfl
@[simp] theorem State.pop_halted (s : State) : (s.pop.2).halted = s.halted := rfl
@[simp] theorem State.pop_started (s : State) : (s.pop.2).started = s.started := rfl
@[simp] theorem State.pop_lastStatement (s : State) : (s.pop.2).lastStatement = s.lastStatement := rfl
@[simp] theorem State.pop_input (s : State) : (s.pop.2).input = s.input := rfl
@[simp] theorem State.pop_output (s : State) : (s.pop.2).output = s.output := rfl
@[simp] theorem State.pop_port (s : State) : (s.pop.2).port = s.port := rfl

@[simp] theorem State.pop_word (s : State) : s.pop.1 = s.read (addressOf s.cfg ((s.sp : Int) + 1)) := rfl

/-! ## `Work.push` -/

@[simp] theorem Work.push_st (t : Work) (v : Int) : (t.push v).st = t.st.push v := rfl
@[simp] theorem Work.push_redirected (t : Work) (v : Int) : (t.push v).redirected = t.redirected := rfl
@[simp] theorem Work.push_inTake (t : Work) (v : Int) : (t.push v).inTake = t.inTake := rfl
@[simp] theorem Work.push_out (t : Work) (v : Int) : (t.push v).out = t.out := rfl

/-! ## `Work.pop` -/

@[simp] theorem Work.pop_st (t : Work) : (t.pop.2).st = t.st.pop.2 := rfl
@[simp] theorem Work.pop_redirected (t : Work) : (t.pop.2).redirected = t.redirected := rfl
@[simp] theorem Work.pop_inTake (t : Work) : (t.pop.2).inTake = t.inTake := rfl
@[simp] theorem Work.pop_out (t : Work) : (t.pop.2).out = t.out := rfl

/-! ## `Work.write` -/

@[simp] theorem Work.write_st (t : Work) (a v : Int) : (t.write a v).st = t.st.write a v := rfl
@[simp] theorem Work.write_redirected (t : Work) (a v : Int) : (t.write a v).redirected = t.redirected := rfl
@[simp] theorem Work.write_inTake (t : Work) (a v : Int) : (t.write a v).inTake = t.inTake := rfl
@[simp] theorem Work.write_out (t : Work) (a v : Int) : (t.write a v).out = t.out := rfl

/-! ## `Work.redirect` -/

@[simp] theorem Work.redirect_st (t : Work) (a : Int) : (t.redirect a).st = t.st.setPc a := rfl
@[simp] theorem Work.redirect_redirected (t : Work) (a : Int) : (t.redirect a).redirected = true := rfl
@[simp] theorem Work.redirect_inTake (t : Work) (a : Int) : (t.redirect a).inTake = t.inTake := rfl
@[simp] theorem Work.redirect_out (t : Work) (a : Int) : (t.redirect a).out = t.out := rfl

/-! ## `Work.emit` -/

@[simp] theorem Work.emit_st (t : Work) (v : Int) : (t.emit v).st = t.st := rfl
@[simp] theorem Work.emit_redirected (t : Work) (v : Int) : (t.emit v).redirected = t.redirected := rfl
@[simp] theorem Work.emit_inTake (t : Work) (v : Int) : (t.emit v).inTake = t.inTake := rfl
@[simp] theorem Work.emit_out (t : Work) (v : Int) : (t.emit v).out = some (wordOf t.st.cfg v) := rfl

@[simp] theorem Work.pop_word (t : Work) : t.pop.1 = t.st.pop.1 := rfl

/-! ## `Work.start` -/

@[simp] theorem Work.start_st (s : State) : (Work.start s).st = s := rfl
@[simp] theorem Work.start_redirected (s : State) : (Work.start s).redirected = false := rfl
@[simp] theorem Work.start_inTake (s : State) : (Work.start s).inTake = false := rfl
@[simp] theorem Work.start_out (s : State) : (Work.start s).out = none := rfl

/-! ## `commit` -/

@[simp] theorem commit_cfg (t : Work) (op : Op) (x : Stmt) :
    (commit t op x).cfg = t.st.cfg := rfl
@[simp] theorem commit_mem (t : Work) (op : Op) (x : Stmt) :
    (commit t op x).mem = t.st.mem := rfl
@[simp] theorem commit_pc (t : Work) (op : Op) (x : Stmt) :
    (commit t op x).pc = t.st.pc := rfl
@[simp] theorem commit_sp (t : Work) (op : Op) (x : Stmt) :
    (commit t op x).sp = t.st.sp := rfl
@[simp] theorem commit_halted (t : Work) (op : Op) (x : Stmt) :
    (commit t op x).halted = (t.st.halted || decide (op = .halt)) := rfl
@[simp] theorem commit_started (t : Work) (op : Op) (x : Stmt) :
    (commit t op x).started = true := rfl
@[simp] theorem commit_lastStatement (t : Work) (op : Op) (x : Stmt) :
    (commit t op x).lastStatement = some x := rfl
@[simp] theorem commit_input (t : Work) (op : Op) (x : Stmt) :
    (commit t op x).input = if t.inTake then t.st.input.tail else t.st.input := rfl
@[simp] theorem commit_output (t : Work) (op : Op) (x : Stmt) :
    (commit t op x).output = t.st.output ++ t.out.toList := rfl
@[simp] theorem commit_port (t : Work) (op : Op) (x : Stmt) :
    (commit t op x).port = some (commitPort t x) := rfl

/-! ## `State.init` -/

@[simp] theorem State.init_cfg (c : Config) : (State.init c).cfg = c := rfl
@[simp] theorem State.init_mem (c : Config) : (State.init c).mem = [] := rfl
@[simp] theorem State.init_pc (c : Config) : (State.init c).pc = 0 := rfl
@[simp] theorem State.init_sp (c : Config) : (State.init c).sp = c.spInit := rfl
@[simp] theorem State.init_halted (c : Config) : (State.init c).halted = false := rfl
@[simp] theorem State.init_started (c : Config) : (State.init c).started = false := rfl
@[simp] theorem State.init_lastStatement (c : Config) : (State.init c).lastStatement = none := rfl
@[simp] theorem State.init_input (c : Config) : (State.init c).input = [] := rfl
@[simp] theorem State.init_output (c : Config) : (State.init c).output = [] := rfl
@[simp] theorem State.init_port (c : Config) : (State.init c).port = none := rfl

end Sys2Proof.Machine
end

