-- ==== Sys2Proof/Laws/Memory.lean ====
section
/-! SUPPORT. Normalisation, the memory array, and its canonical form. -/

namespace Sys2Proof.Machine

/-! ## Normalisation -/

theorem wordOf_lt (c : Config) (x : Int) : wordOf c x < 2 ^ c.w := by
  have h : (0 : Int) < ((2 ^ c.w : Nat) : Int) := by exact_mod_cast Nat.two_pow_pos c.w
  have h1 := Int.emod_lt_of_pos x h
  have h2 := Int.emod_nonneg x (ne_of_gt h)
  unfold wordOf
  exact (Int.toNat_lt h2).mpr h1

theorem wordOf_of_lt {c : Config} {x : Nat} (h : x < 2 ^ c.w) : wordOf c (x : Int) = x := by
  unfold wordOf
  rw [Int.emod_eq_of_lt (by omega) (by exact_mod_cast h)]
  rfl

theorem wordOf_natCast (c : Config) (x : Nat) : wordOf c (x : Int) = x % 2 ^ c.w := by
  unfold wordOf
  rw [← Int.natCast_emod, Int.toNat_natCast]

theorem addressOf_lt {c : Config} (h : 1 ≤ c.n) (x : Int) : addressOf c x < c.n := by
  have h0 : (0 : Int) < (c.n : Int) := by omega
  have h1 := Int.emod_lt_of_pos x h0
  have h2 := Int.emod_nonneg x (ne_of_gt h0)
  unfold addressOf
  exact (Int.toNat_lt h2).mpr h1

theorem addressOf_of_lt {c : Config} {x : Nat} (h : x < c.n) : addressOf c (x : Int) = x := by
  unfold addressOf
  rw [Int.emod_eq_of_lt (by omega) (by omega)]
  rfl

theorem addressOf_natCast (c : Config) (x : Nat) : addressOf c (x : Int) = x % c.n := by
  unfold addressOf
  rw [← Int.natCast_emod, Int.toNat_natCast]

/-- The value of `address_of` as an integer. -/
theorem addressOf_cast {c : Config} (h : 1 ≤ c.n) (x : Int) : (addressOf c x : Int) = x % (c.n : Int) := by
  unfold addressOf
  exact Int.toNat_of_nonneg (Int.emod_nonneg x (by omega))

/-! ## The array -/

@[simp] theorem Memory.read_nil (a : Nat) : Memory.read [] a = 0 := rfl

/-- An address below every listed one reads as 0. -/
theorem Memory.read_eq_zero_of_lt {m : Memory} {a : Nat} (h : ∀ x ∈ m, a < x.1) : Memory.read m a = 0 := by
  induction m with
  | nil => rfl
  | cons y m ih =>
    have hy : a < y.1 := h y (by simp)
    have hm : ∀ x ∈ m, a < x.1 := fun x hx => h x (by simp [hx])
    simp [Memory.read, Nat.ne_of_lt hy, ih hm]

/-- An entry of an array with rising addresses is what its address reads as. -/
theorem Memory.read_of_mem {m : Memory} (h : m.Pairwise fun x y => x.1 < y.1) {x : Nat × Nat} (hx : x ∈ m) :
    Memory.read m x.1 = x.2 := by
  induction m with
  | nil => cases hx
  | cons y m ih =>
    rcases List.mem_cons.mp hx with rfl | hx
    · simp [Memory.read]
    · have hlt : y.1 < x.1 := (List.pairwise_cons.mp h).1 x hx
      simp [Memory.read, Nat.ne_of_gt hlt, ih (List.pairwise_cons.mp h).2 hx]

/-- What an address reads as is 0 or is listed. -/
theorem Memory.read_zero_or_mem (m : Memory) (a : Nat) : Memory.read m a = 0 ∨ (a, Memory.read m a) ∈ m := by
  induction m with
  | nil => exact .inl rfl
  | cons y m ih =>
    by_cases h : a = y.1
    · right
      simp [Memory.read, h]
    · rcases ih with ih | ih
      · left
        simp [Memory.read, h, ih]
      · right
        simp [Memory.read, h, ih]

/-- Where an entry of the written array comes from. -/
theorem Memory.mem_write {m : Memory} {a : Nat} {v : Nat} {x : Nat × Nat} (hx : x ∈ Memory.write m a v) :
    (x = (a, v) ∧ v ≠ 0) ∨ x ∈ m := by
  induction m with
  | nil =>
    by_cases hv : v = 0 <;> simp [Memory.write, hv] at hx
    exact .inl ⟨hx, hv⟩
  | cons y m ih =>
    rcases Nat.lt_trichotomy a y.1 with h | h | h
    · by_cases hv : v = 0
      · simp only [Memory.write, h, hv, ↓reduceIte] at hx
        exact .inr hx
      · simp only [Memory.write, h, hv, ↓reduceIte, List.mem_cons] at hx
        rcases hx with hx | hx
        · exact .inl ⟨hx, hv⟩
        · exact .inr (List.mem_cons.mpr hx)
    · have hn : ¬ a < y.1 := by omega
      by_cases hv : v = 0
      · simp only [Memory.write, h, hv, ↓reduceIte, Nat.lt_irrefl] at hx
        exact .inr (List.mem_cons_of_mem _ hx)
      · simp only [Memory.write, hn, hv, ↓reduceIte, if_pos h, List.mem_cons] at hx
        rcases hx with hx | hx
        · exact .inl ⟨hx, hv⟩
        · exact .inr (List.mem_cons_of_mem _ hx)
    · have hn : ¬ a < y.1 := by omega
      have hn' : ¬ a = y.1 := by omega
      simp only [Memory.write, hn, hn', ↓reduceIte, List.mem_cons] at hx
      rcases hx with hx | hx
      · exact .inr (by simp [hx])
      · rcases ih hx with h' | h'
        · exact .inl h'
        · exact .inr (List.mem_cons_of_mem _ h')

/-- Writing keeps the addresses rising. -/
theorem Memory.write_pairwise {m : Memory} (h : m.Pairwise fun x y => x.1 < y.1) (a : Nat) (v : Nat) :
    (Memory.write m a v).Pairwise fun x y => x.1 < y.1 := by
  induction m with
  | nil =>
    by_cases hv : v = 0 <;> simp [Memory.write, hv]
  | cons y m ih =>
    obtain ⟨hy, hm⟩ := List.pairwise_cons.mp h
    rcases Nat.lt_trichotomy a y.1 with hlt | heq | hgt
    · by_cases hv : v = 0
      · simpa only [Memory.write, hlt, hv, ↓reduceIte] using h
      · simp only [Memory.write, hlt, hv, ↓reduceIte]
        refine List.pairwise_cons.mpr ⟨fun x hx => ?_, h⟩
        rcases List.mem_cons.mp hx with rfl | hx
        · exact hlt
        · exact Nat.lt_trans hlt (hy x hx)
    · have hn : ¬ a < y.1 := by omega
      by_cases hv : v = 0
      · simpa only [Memory.write, hn, hv, ↓reduceIte, if_pos heq] using hm
      · simp only [Memory.write, hn, hv, ↓reduceIte, if_pos heq]
        exact List.pairwise_cons.mpr ⟨fun x hx => by simpa [heq] using hy x hx, hm⟩
    · have hn : ¬ a < y.1 := by omega
      have hn' : ¬ a = y.1 := by omega
      simp only [Memory.write, hn, hn', ↓reduceIte]
      refine List.pairwise_cons.mpr ⟨fun x hx => ?_, ih hm⟩
      rcases Memory.mem_write hx with ⟨rfl, -⟩ | hx
      · exact hgt
      · exact hy x hx

/-- A write leaves every other address as it reads. -/
theorem Memory.read_write_of_ne (m : Memory) {a b : Nat} (h : b ≠ a) (v : Nat) :
    Memory.read (Memory.write m a v) b = Memory.read m b := by
  induction m with
  | nil =>
    by_cases hv : v = 0 <;> simp [Memory.write, Memory.read, hv, h]
  | cons y m ih =>
    rcases Nat.lt_trichotomy a y.1 with hlt | heq | hgt
    · by_cases hv : v = 0 <;> simp [Memory.write, Memory.read, hlt, hv, h]
    · have hn : ¬ a < y.1 := by omega
      have hb : ¬ b = y.1 := by omega
      by_cases hv : v = 0 <;> simp [Memory.write, Memory.read, heq, hv, hb]
    · have hn : ¬ a < y.1 := by omega
      have hn' : ¬ a = y.1 := by omega
      simp [Memory.write, Memory.read, hn, hn', ih]

/-- A written address reads as the word written. -/
theorem Memory.read_write_same {m : Memory} (h : m.Pairwise fun x y => x.1 < y.1) (a : Nat) (v : Nat) :
    Memory.read (Memory.write m a v) a = v := by
  induction m with
  | nil =>
    by_cases hv : v = 0 <;> simp [Memory.write, Memory.read, hv]
  | cons y m ih =>
    obtain ⟨hy, hm⟩ := List.pairwise_cons.mp h
    rcases Nat.lt_trichotomy a y.1 with hlt | heq | hgt
    · by_cases hv : v = 0
      · subst hv
        have hz : Memory.read m a = 0 := Memory.read_eq_zero_of_lt fun x hx => Nat.lt_trans hlt (hy x hx)
        simp [Memory.write, Memory.read, hlt, Nat.ne_of_lt hlt, hz]
      · simp [Memory.write, Memory.read, hlt, hv]
    · by_cases hv : v = 0
      · subst hv
        have hz : Memory.read m a = 0 := Memory.read_eq_zero_of_lt fun x hx => by simpa [heq] using hy x hx
        rw [heq] at hz
        simp [Memory.write, heq, hz]
      · simp [Memory.write, Memory.read, heq, hv]
    · have hn : ¬ a < y.1 := by omega
      have hn' : ¬ a = y.1 := by omega
      simp [Memory.write, Memory.read, hn, hn', ih hm]

/-- Reading a written array. -/
theorem Memory.read_write {m : Memory} (h : m.Pairwise fun x y => x.1 < y.1) (a b : Nat) (v : Nat) :
    Memory.read (Memory.write m a v) b = if b = a then v else Memory.read m b := by
  by_cases hb : b = a
  · simp [hb, Memory.read_write_same h]
  · simp [hb, Memory.read_write_of_ne m hb]

/-! ## The canonical form -/

theorem Memory.wf_nil (c : Config) : Memory.wf c [] := by simp [Memory.wf]

/-- Every memory operation of the machine is `Memory.write` of a word at an address; it keeps the canonical form. -/
theorem Memory.write_wf {c : Config} {m : Memory} (h : Memory.wf c m) {a : Nat} (ha : a < c.n) {v : Nat}
    (hv : v < 2 ^ c.w) : Memory.wf c (Memory.write m a v) := by
  refine ⟨Memory.write_pairwise h.1 a v, fun x hx => ?_⟩
  rcases Memory.mem_write hx with ⟨rfl, hv0⟩ | hx
  · exact ⟨ha, hv, hv0⟩
  · exact h.2 x hx

/-- Every address of an array in canonical form reads as a `W`-bit word. -/
theorem Memory.read_lt {c : Config} {m : Memory} (h : Memory.wf c m) (a : Nat) : Memory.read m a < 2 ^ c.w := by
  rcases Memory.read_zero_or_mem m a with h0 | hmem
  · rw [h0]
    exact Nat.two_pow_pos c.w
  · exact (h.2 _ hmem).2.1

/-- Two arrays in canonical form that read alike are equal. -/
theorem Memory.ext_of_read {c : Config} {m m' : Memory} (h : Memory.wf c m) (h' : Memory.wf c m')
    (hr : ∀ a, Memory.read m a = Memory.read m' a) : m = m' := by
  have key : ∀ (p q : Memory), Memory.wf c p → Memory.wf c q → (∀ a, Memory.read p a = Memory.read q a) →
      ∀ x ∈ p, x ∈ q := by
    intro p q hp hq hpq x hx
    have h1 : Memory.read q x.1 = x.2 := by rw [← hpq, Memory.read_of_mem hp.1 hx]
    rcases Memory.read_zero_or_mem q x.1 with h0 | hmem
    · exact absurd (h1.symm.trans h0) (hp.2 x hx).2.2
    · rw [h1] at hmem
      exact hmem
  have hnd : ∀ {p : Memory}, Memory.wf c p → p.Nodup := fun hp =>
    hp.1.imp fun hlt heq => by simp [heq] at hlt
  have hperm : m.Perm m' := (List.perm_ext_iff_of_nodup (hnd h) (hnd h')).mpr fun x =>
    ⟨key m m' h h' hr x, key m' m h' h (fun a => (hr a).symm) x⟩
  exact hperm.eq_of_pairwise (fun x y _ _ hxy hyx => absurd hxy (Nat.lt_asymm hyx)) h.1 h'.1

end Sys2Proof.Machine
end

