-- ==== Sys2Proof/Laws/Load.lean ====
section
/-! SUPPORT. The memory a LOAD builds: its canonical form and what every address of it reads as. -/

namespace Sys2Proof.Machine

/-- The memory of a program is in canonical form and lists no address below its first (70_reset_and_hazards.md R181). -/
theorem programMemory_wf (c : Config) (p : List Nat) (a : Nat) (h : a + p.length ≤ c.n) :
    Memory.wf c (programMemory c a p) ∧ ∀ x ∈ programMemory c a p, a ≤ x.1 := by
  induction p generalizing a with
  | nil => exact ⟨Memory.wf_nil c, by simp [programMemory]⟩
  | cons y p ih =>
    rw [List.length_cons] at h
    obtain ⟨hwf, hle⟩ := ih (a + 1) (by omega)
    unfold programMemory
    split
    · exact ⟨hwf, fun x hx => Nat.le_of_succ_le (hle x hx)⟩
    · next hne =>
      refine ⟨⟨List.pairwise_cons.mpr ⟨fun x hx => hle x hx, hwf.1⟩, fun x hx => ?_⟩, fun x hx => ?_⟩
      · rcases List.mem_cons.mp hx with rfl | hx
        · exact ⟨by show a < c.n; omega, show wordOf c y < 2 ^ c.w from wordOf_lt c _, hne⟩
        · exact hwf.2 x hx
      · rcases List.mem_cons.mp hx with rfl | hx
        · exact Nat.le_refl a
        · exact Nat.le_of_succ_le (hle x hx)

/-- Word `j` of the program stands at address `a + j`, and every other address reads 0 (70_reset_and_hazards.md R181). -/
theorem programMemory_read (c : Config) (p : List Nat) (a b : Nat) :
    Memory.read (programMemory c a p) b =
      if a ≤ b then (p[b - a]?.map fun x => wordOf c x).getD 0 else 0 := by
  induction p generalizing a with
  | nil => simp [programMemory]
  | cons y p ih =>
    by_cases hb : b = a
    · subst hb
      by_cases hy : wordOf c y = 0 <;> simp [programMemory, Memory.read, ih, hy]
    · have hr : Memory.read (programMemory c a (y :: p)) b = Memory.read (programMemory c (a + 1) p) b := by
        by_cases hy : wordOf c y = 0 <;> simp [programMemory, Memory.read, hy, hb]
      rw [hr, ih]
      by_cases hle : a + 1 ≤ b
      · rw [if_pos hle, if_pos (by omega), show b - a = (b - (a + 1)) + 1 by omega, List.getElem?_cons_succ]
      · rw [if_neg hle, if_neg (by omega)]

end Sys2Proof.Machine
end

