-- ==== Sys2Proof/Laws/PerInstr.lean ====
section
/-! SUPPORT. The statements made per instruction: one lemma per constructor of `Instr`. -/

namespace Sys2Proof.Laws

/-- An instruction occupies as many words as the length of its operation (30_encoding.md R60, R65). -/
def EncodedLength.Statement (i : Instr) : Prop := (encode i).length = i.op.len

/-- The words of a well-formed instruction are `W`-bit words, its opcode word first (30_encoding.md R60). -/
def EncodedWordsFit.Statement (i : Instr) : Prop :=
  ∀ c : Config, i.wf c → (encode i).head? = some i.opcode ∧ ∀ x ∈ encode i, x < 2 ^ c.w

/-- For an instruction without operand word. -/
theorem EncodedWordsFit.of_none {i : Instr} (h : i.payload = none) : EncodedWordsFit.Statement i := by
  intro c hwf
  have he : encode i = [i.opcode] := by simp [encode, h]
  rw [he]
  exact ⟨rfl, fun x hx => List.mem_singleton.mp hx ▸ hwf.1⟩

/-- For an instruction with an operand word. -/
theorem EncodedWordsFit.of_some {i : Instr} {opnd : Nat} (h : i.payload = some opnd) :
    EncodedWordsFit.Statement i := by
  intro c hwf
  have he : encode i = [i.opcode, opnd] := by simp [encode, h]
  rw [he]
  refine ⟨rfl, fun x hx => ?_⟩
  rcases List.mem_cons.mp hx with rfl | hx
  · exact hwf.1
  · exact List.mem_singleton.mp hx ▸ hwf.2.2 opnd (by simp [h])

theorem EncodedLength.halt (w0 : Nat) : EncodedLength.Statement (.halt w0) := rfl
theorem EncodedLength.jmp (w0 opnd : Nat) : EncodedLength.Statement (.jmp w0 opnd) := rfl
theorem EncodedLength.jz (w0 opnd : Nat) : EncodedLength.Statement (.jz w0 opnd) := rfl
theorem EncodedLength.jnz (w0 opnd : Nat) : EncodedLength.Statement (.jnz w0 opnd) := rfl
theorem EncodedLength.call (w0 opnd : Nat) : EncodedLength.Statement (.call w0 opnd) := rfl
theorem EncodedLength.ret (w0 : Nat) : EncodedLength.Statement (.ret w0) := rfl
theorem EncodedLength.push (w0 opnd : Nat) : EncodedLength.Statement (.push w0 opnd) := rfl
theorem EncodedLength.pop (w0 : Nat) : EncodedLength.Statement (.pop w0) := rfl
theorem EncodedLength.dup (w0 : Nat) : EncodedLength.Statement (.dup w0) := rfl
theorem EncodedLength.swap (w0 : Nat) : EncodedLength.Statement (.swap w0) := rfl
theorem EncodedLength.ld (w0 : Nat) : EncodedLength.Statement (.ld w0) := rfl
theorem EncodedLength.st (w0 : Nat) : EncodedLength.Statement (.st w0) := rfl
theorem EncodedLength.add (w0 : Nat) : EncodedLength.Statement (.add w0) := rfl
theorem EncodedLength.sub (w0 : Nat) : EncodedLength.Statement (.sub w0) := rfl
theorem EncodedLength.inc (w0 : Nat) : EncodedLength.Statement (.inc w0) := rfl
theorem EncodedLength.dec (w0 : Nat) : EncodedLength.Statement (.dec w0) := rfl
theorem EncodedLength.and (w0 : Nat) : EncodedLength.Statement (.and w0) := rfl
theorem EncodedLength.or (w0 : Nat) : EncodedLength.Statement (.or w0) := rfl
theorem EncodedLength.xor (w0 : Nat) : EncodedLength.Statement (.xor w0) := rfl
theorem EncodedLength.not (w0 : Nat) : EncodedLength.Statement (.not w0) := rfl
theorem EncodedLength.eq (w0 : Nat) : EncodedLength.Statement (.eq w0) := rfl
theorem EncodedLength.lt (w0 : Nat) : EncodedLength.Statement (.lt w0) := rfl
theorem EncodedLength.gt (w0 : Nat) : EncodedLength.Statement (.gt w0) := rfl
theorem EncodedLength.in_ (w0 : Nat) : EncodedLength.Statement (.in_ w0) := rfl
theorem EncodedLength.out (w0 : Nat) : EncodedLength.Statement (.out w0) := rfl
theorem EncodedLength.inert (w0 : Nat) : EncodedLength.Statement (.inert w0) := rfl

theorem EncodedWordsFit.halt (w0 : Nat) : EncodedWordsFit.Statement (.halt w0) := EncodedWordsFit.of_none rfl
theorem EncodedWordsFit.jmp (w0 opnd : Nat) : EncodedWordsFit.Statement (.jmp w0 opnd) := EncodedWordsFit.of_some rfl
theorem EncodedWordsFit.jz (w0 opnd : Nat) : EncodedWordsFit.Statement (.jz w0 opnd) := EncodedWordsFit.of_some rfl
theorem EncodedWordsFit.jnz (w0 opnd : Nat) : EncodedWordsFit.Statement (.jnz w0 opnd) := EncodedWordsFit.of_some rfl
theorem EncodedWordsFit.call (w0 opnd : Nat) : EncodedWordsFit.Statement (.call w0 opnd) := EncodedWordsFit.of_some rfl
theorem EncodedWordsFit.ret (w0 : Nat) : EncodedWordsFit.Statement (.ret w0) := EncodedWordsFit.of_none rfl
theorem EncodedWordsFit.push (w0 opnd : Nat) : EncodedWordsFit.Statement (.push w0 opnd) := EncodedWordsFit.of_some rfl
theorem EncodedWordsFit.pop (w0 : Nat) : EncodedWordsFit.Statement (.pop w0) := EncodedWordsFit.of_none rfl
theorem EncodedWordsFit.dup (w0 : Nat) : EncodedWordsFit.Statement (.dup w0) := EncodedWordsFit.of_none rfl
theorem EncodedWordsFit.swap (w0 : Nat) : EncodedWordsFit.Statement (.swap w0) := EncodedWordsFit.of_none rfl
theorem EncodedWordsFit.ld (w0 : Nat) : EncodedWordsFit.Statement (.ld w0) := EncodedWordsFit.of_none rfl
theorem EncodedWordsFit.st (w0 : Nat) : EncodedWordsFit.Statement (.st w0) := EncodedWordsFit.of_none rfl
theorem EncodedWordsFit.add (w0 : Nat) : EncodedWordsFit.Statement (.add w0) := EncodedWordsFit.of_none rfl
theorem EncodedWordsFit.sub (w0 : Nat) : EncodedWordsFit.Statement (.sub w0) := EncodedWordsFit.of_none rfl
theorem EncodedWordsFit.inc (w0 : Nat) : EncodedWordsFit.Statement (.inc w0) := EncodedWordsFit.of_none rfl
theorem EncodedWordsFit.dec (w0 : Nat) : EncodedWordsFit.Statement (.dec w0) := EncodedWordsFit.of_none rfl
theorem EncodedWordsFit.and (w0 : Nat) : EncodedWordsFit.Statement (.and w0) := EncodedWordsFit.of_none rfl
theorem EncodedWordsFit.or (w0 : Nat) : EncodedWordsFit.Statement (.or w0) := EncodedWordsFit.of_none rfl
theorem EncodedWordsFit.xor (w0 : Nat) : EncodedWordsFit.Statement (.xor w0) := EncodedWordsFit.of_none rfl
theorem EncodedWordsFit.not (w0 : Nat) : EncodedWordsFit.Statement (.not w0) := EncodedWordsFit.of_none rfl
theorem EncodedWordsFit.eq (w0 : Nat) : EncodedWordsFit.Statement (.eq w0) := EncodedWordsFit.of_none rfl
theorem EncodedWordsFit.lt (w0 : Nat) : EncodedWordsFit.Statement (.lt w0) := EncodedWordsFit.of_none rfl
theorem EncodedWordsFit.gt (w0 : Nat) : EncodedWordsFit.Statement (.gt w0) := EncodedWordsFit.of_none rfl
theorem EncodedWordsFit.in_ (w0 : Nat) : EncodedWordsFit.Statement (.in_ w0) := EncodedWordsFit.of_none rfl
theorem EncodedWordsFit.out (w0 : Nat) : EncodedWordsFit.Statement (.out w0) := EncodedWordsFit.of_none rfl
theorem EncodedWordsFit.inert (w0 : Nat) : EncodedWordsFit.Statement (.inert w0) := EncodedWordsFit.of_none rfl

end Sys2Proof.Laws
end

