-- ==== Sys2Proof/Laws/Step.lean ====
section
/-! SUPPORT. What each shared operation of a STEP can do, said once: the collision detector in terms of the gap, the two
ways `finish` and `runOp` answer, and every meaning as one `runOp`. -/

namespace Sys2Proof.Machine

/-! ## The gap and the collision detector -/

theorem State.gap_lt {s : State} (h : 1 ≤ s.cfg.n) : s.gap < s.cfg.n := addressOf_lt h _

/-- The two possible values of the gap of two addresses (40_step_engine.md R86). -/
theorem State.gap_eq {s : State} (hpc : s.pc < s.cfg.n) (hsp : s.sp < s.cfg.n) :
    (s.gap : Int) = if s.pc ≤ s.sp then (s.sp : Int) - s.pc else (s.sp : Int) - s.pc + s.cfg.n := by
  have hn : 1 ≤ s.cfg.n := by omega
  rw [State.gap, addressOf_cast hn]
  split
  · exact Int.emod_eq_of_lt (by omega) (by omega)
  · rw [← Int.add_emod_right]
    exact Int.emod_eq_of_lt (by omega) (by omega)

/-- `Work.advance` on a step that was not redirected (40_step_engine.md R85). -/
theorem Work.advance_of_seq {t : Work} (h : t.redirected = false) (s : State) (k : Nat) :
    t.advance s k = { t with st := t.st.setPc ((s.pc : Int) + k) } := by
  simp [Work.advance, h]

/-- `Work.advance` on a redirected step (40_step_engine.md R85). -/
theorem Work.advance_of_redirected {t : Work} (h : t.redirected = true) (s : State) (k : Nat) :
    t.advance s k = t := by
  simp [Work.advance, h]

/-- The advance changes `pc` alone. -/
theorem Work.advance_frame (t : Work) (s : State) (k : Nat) :
    t.advance s k = { t with st := { t.st with pc := (t.advance s k).st.pc } } := by
  unfold Work.advance
  split <;> rfl

/-- The detector on a step that was not redirected: `c1`, `c2` and `c3` of 40_step_engine.md R86. -/
theorem stopsOnCollision_seq {s : State} {t : Work} (h : t.redirected = false) (op : Op) :
    stopsOnCollision s t op = false ↔
      (s.cfg.policy = .fault → op.len ≤ s.gap ∧ s.gap + op.reads < s.cfg.n ∧ op.len + op.writes < s.gap + op.reads) := by
  cases hp : s.cfg.policy
  · simp [stopsOnCollision, collide, h, hp]
    omega
  · simp [stopsOnCollision, hp]

/-- The detector on a redirected step: `c1`, `c2` and `c4` of 40_step_engine.md R86. -/
theorem stopsOnCollision_redirected {s : State} {t : Work} (h : t.redirected = true) (op : Op) :
    stopsOnCollision s t op = false ↔
      (s.cfg.policy = .fault → op.len ≤ s.gap ∧ s.gap + op.reads < s.cfg.n ∧ t.st.pc ≠ t.st.sp) := by
  cases hp : s.cfg.policy
  · simp [stopsOnCollision, collide, h, hp]
    omega
  · simp [stopsOnCollision, hp]

/-! ## The two answers of `finish` -/

theorem finish_of_stops {s : State} {op : Op} {x : Stmt} {t : Work}
    (h : stopsOnCollision s (t.advance s op.len) op = true) : finish s op x t = .fault .cursorCollision := by
  simp [finish, h, raise]

theorem finish_of_clear {s : State} {op : Op} {x : Stmt} {t : Work}
    (h : stopsOnCollision s (t.advance s op.len) op = false) :
    finish s op x t = .next (commit (t.advance s op.len) op x) := by
  simp [finish, h]

/-! ## Every meaning is one `runOp` -/

theorem runOp_of_ok {op : Op} {x : Stmt} {body : Work → Except StepError Work} {s : State} {t : Work}
    (h : body (Work.start s) = .ok t) : runOp op x body s = finish s op x t := by
  simp [runOp, h]

theorem runOp_of_error {op : Op} {x : Stmt} {body : Work → Except StepError Work} {s : State} {e : StepError}
    (h : body (Work.start s) = .error e) : runOp op x body s = raise e s := by
  simp [runOp, h]

theorem Work.jumpIf_of_true {test : Nat → Bool} {t : Work} (h : test t.pop.1 = true) (opnd : Nat) :
    t.jumpIf test opnd = t.pop.2.redirect opnd := by
  show (if test t.pop.1 = true then _ else _) = _
  rw [if_pos h]

theorem Work.jumpIf_of_false {test : Nat → Bool} {t : Work} (h : test t.pop.1 = false) (opnd : Nat) :
    t.jumpIf test opnd = t.pop.2 := by
  show (if test t.pop.1 = true then _ else _) = _
  rw [if_neg (by rw [h]; exact Bool.false_ne_true)]

/-- `runPure` is `runOp` without errors. -/
theorem runPure_eq (op : Op) (x : Stmt) (body : Work → Work) (s : State) :
    runPure op x body s = runOp op x (fun t => .ok (body t)) s := rfl

/-- The `Exec` phase of an instruction: what it does to the working copy of `s` (40_step_engine.md R84). -/
def execBody (i : Instr) (s : State) (t : Work) : Except StepError Work :=
  match i with
  | .halt _ | .inert _ => .ok t
  | .jmp _ opnd => .ok (t.redirect opnd)
  | .jz _ opnd => .ok (t.jumpIf (fun c => isZeroWord c) opnd)
  | .jnz _ opnd => .ok (t.jumpIf (fun c => !isZeroWord c) opnd)
  | .call _ opnd => .ok ((t.push (wordOf s.cfg (addressOf s.cfg ((s.pc : Int) + 2)))).redirect opnd)
  | .ret _ => .ok (t.pop.2.redirect t.pop.1)
  | .push _ opnd => .ok (t.push opnd)
  | .pop _ => .ok t.pop.2
  | .dup _ => .ok (t.push t.st.top)
  | .swap _ => .ok ((t.pop.2.pop.2.push t.pop.1).push t.pop.2.pop.1)
  | .ld _ => .ok (t.pop.2.push (t.pop.2.st.read t.pop.1))
  | .st _ => .ok (t.pop.2.pop.2.write t.pop.1 t.pop.2.pop.1)
  | .add _ => .ok (t.binOp fun a b => wordOf s.cfg ((a : Int) + b))
  | .sub _ => .ok (t.binOp fun a b => wordOf s.cfg ((a : Int) - b))
  | .inc _ => .ok (t.unOp fun x => wordOf s.cfg ((x : Int) + 1))
  | .dec _ => .ok (t.unOp fun x => wordOf s.cfg ((x : Int) - 1))
  | .and _ => .ok (t.binOp fun a b => Nat.land a b)
  | .or _ => .ok (t.binOp fun a b => Nat.lor a b)
  | .xor _ => .ok (t.binOp fun a b => Nat.xor a b)
  | .not _ => .ok (t.unOp fun x => wordOf s.cfg (((2 ^ s.cfg.w : Nat) : Int) - 1 - x))
  | .eq _ => .ok (t.binOp fun a b => truthWord (decide (a = b)))
  | .lt _ => .ok (t.binOp fun a b => truthWord (decide (a < b)))
  | .gt _ => .ok (t.binOp fun a b => truthWord (decide (b < a)))
  | .in_ _ =>
    match t.takeInput with
    | .error e => .error e
    | .ok (x, t) => .ok (t.push x)
  | .out _ => .ok (t.pop.2.emit t.pop.1)

theorem exec_eq_runOp (i : Instr) (s : State) : exec i s = runOp i.op i.stmt (execBody i s) s := by
  cases i <;> rfl

/-- Only IN raises an error of its own, `InputExhausted`, on an empty channel (40_step_engine.md R88). -/
theorem execBody_error {i : Instr} {s : State} {t : Work} {e : StepError} (h : execBody i s t = .error e) :
    i.op = .in_ ∧ t.st.input = [] ∧ e = .inputExhausted := by
  cases i with
  | in_ w0 =>
    cases hi : t.st.input with
    | nil => simp [execBody, Work.takeInput, hi] at h; exact ⟨rfl, rfl, h.symm⟩
    | cons x xs => simp [execBody, Work.takeInput, hi] at h
  | _ => simp [execBody] at h

/-- What the `Exec` phase leaves alone: the parameters, the status bits, the last Statement, both channels and the driven
outputs; only IN takes input. -/
theorem execBody_frame {i : Instr} {s : State} {t t' : Work} (h : execBody i s t = .ok t') :
    t'.st = { t.st with mem := t'.st.mem, pc := t'.st.pc, sp := t'.st.sp }
      ∧ (i.op ≠ .in_ → t'.inTake = t.inTake) ∧ (i.op = .in_ → t'.inTake = true)
      ∧ (i.op ≠ .out → t'.out = t.out) ∧ (i.op = .out → t'.out.isSome = true) := by
  cases i with
  | in_ w0 =>
    cases hi : t.st.input with
    | nil => simp [execBody, Work.takeInput, hi] at h
    | cons x xs =>
      simp only [execBody, Work.takeInput, hi, Except.ok.injEq] at h
      subst h
      exact ⟨rfl, fun hne => absurd rfl hne, fun _ => rfl, fun _ => rfl, fun ho => nomatch ho⟩
  | jz w0 opnd =>
    simp only [execBody, Except.ok.injEq] at h
    subst h
    cases hz : (fun c => isZeroWord c) t.pop.1 with
    | true => rw [Work.jumpIf_of_true hz]; refine ⟨rfl, ?_, ?_, ?_, ?_⟩ <;> simp [Instr.op]
    | false => rw [Work.jumpIf_of_false hz]; refine ⟨rfl, ?_, ?_, ?_, ?_⟩ <;> simp [Instr.op]
  | jnz w0 opnd =>
    simp only [execBody, Except.ok.injEq] at h
    subst h
    cases hz : (fun c => !isZeroWord c) t.pop.1 with
    | true => rw [Work.jumpIf_of_true hz]; refine ⟨rfl, ?_, ?_, ?_, ?_⟩ <;> simp [Instr.op]
    | false => rw [Work.jumpIf_of_false hz]; refine ⟨rfl, ?_, ?_, ?_, ?_⟩ <;> simp [Instr.op]
  | _ =>
    simp only [execBody, Except.ok.injEq] at h
    subst h
    refine ⟨rfl, ?_, ?_, ?_, ?_⟩ <;> simp [Instr.op, Work.binOp, Work.unOp]

/-- The two ways an instruction answers a next state: a hold, for IN on an empty channel, or a commit. -/
theorem exec_next_cases {i : Instr} {s t : State} (h : exec i s = .next t) :
    (i.op = .in_ ∧ s.input = [] ∧ t = { s with port := some (errorPort .inputExhausted) })
      ∨ ∃ w, execBody i s (Work.start s) = .ok w ∧ stopsOnCollision s (w.advance s i.op.len) i.op = false
        ∧ t = commit (w.advance s i.op.len) i.op i.stmt := by
  rw [exec_eq_runOp] at h
  cases hb : execBody i s (Work.start s) with
  | error e =>
    obtain ⟨hop, hin, rfl⟩ := execBody_error hb
    rw [runOp_of_error hb] at h
    exact .inl ⟨hop, hin, (Host.Outcome.next.inj h).symm⟩
  | ok w =>
    rw [runOp_of_ok hb] at h
    cases hs : stopsOnCollision s (w.advance s i.op.len) i.op with
    | true => rw [finish_of_stops hs] at h; cases h
    | false =>
      rw [finish_of_clear hs] at h
      exact .inr ⟨w, rfl, hs, (Host.Outcome.next.inj h).symm⟩

/-! ## The gate and the fetch -/

theorem step_of_running {s : State} (h : s.halted = false) : step s = exec (fetchInstr s) s := by
  simp [step, haltGate, h]

/-- A STEP that answers a next state was one of a core that is not halted, and is the meaning of the instruction it
fetched. -/
theorem step_next {s t : State} (h : step s = .next t) : s.halted = false ∧ exec (fetchInstr s) s = .next t := by
  cases hh : s.halted with
  | true => simp [step, haltGate, hh, raise] at h
  | false => exact ⟨rfl, by rw [← step_of_running hh]; exact h⟩

@[simp] theorem fetchInstr_op (s : State) : (fetchInstr s).op = s.cfg.decodeWord (s.read s.pc) := by
  simp [fetchInstr]

@[simp] theorem fetchInstr_opcode (s : State) : (fetchInstr s).opcode = s.read s.pc := by
  simp [fetchInstr]

theorem fetchInstr_payload (s : State) :
    (fetchInstr s).payload =
      if (s.cfg.decodeWord (s.read s.pc)).len = 2 then some (s.read ((s.pc : Int) + 1)) else none := by
  simp [fetchInstr, Instr.ofOp_payload]

end Sys2Proof.Machine
end

