-- ==== Sys2Proof/Tests/Slice0.lean ====
section
/-! SUPPORT. Tests of the model, and a witness for the hypotheses of every statement. The words are written out from
30_encoding.md R63; expected results are those of spec/95_test_vectors.md (`V<n>`) and of the rules' examples. -/

namespace Sys2Proof.Tests

open Sys2Proof Sys2Proof.Machine

/-! ## Helpers -/

/-- The reference core with the given cursors and the given words that are not 0. -/
def at' (pc sp : Nat) (m : Memory) : State := { State.reset with mem := m, pc := pc, sp := sp }

/-- The same with words in the input channel. -/
def atIn (pc sp : Nat) (m : Memory) (input : List Nat) : State := { at' pc sp m with input := input }

/-- The same core under TOLERATE. -/
def tolerant (s : State) : State := { s with cfg := { s.cfg with policy := .tolerate } }

/-- The status a STEP drives. -/
def statusOf (s : State) : Option Status := (stepTransaction s).1.map fun p => p.status

/-- The state after a STEP. -/
def after (s : State) : State := (stepTransaction s).2

/-- What a STEP shows: its status, the two cursors after it, and the word at an address after it. -/
def stepView (s : State) (a : Int) : Option Status × Nat × Nat × Nat :=
  (statusOf s, (after s).pc, (after s).sp, (after s).read a)

/-- Whether an outcome is a next state. -/
def goesOn : Outcome → Bool
  | .next _ => true
  | .fault _ => false
  | .refused _ => false

/-- Whether an outcome is the fault CursorCollision. -/
def collides : Outcome → Bool
  | .fault .cursorCollision => true
  | .fault .alreadyHalted => false
  | .next _ => false
  | .refused _ => false

/-- The state an outcome goes on with, the given one where there is none. -/
def orElse (s : State) : Outcome → State
  | .next t => t
  | .fault _ => s
  | .refused _ => s

/-- What decoding gives, as plain data. -/
def decoded (c : Config) (ws : List Nat) : Option (Instr × List Nat) :=
  match decode c ws with
  | .ok x => some x
  | .error _ => none

/-! ## Well-formedness refuses an ill-formed term for each check -/

theorem test_wf_refuses_wide_opcode : ¬ (Instr.inert 0x100).wf Config.reference := by decide
theorem test_wf_refuses_unbound_opcode : ¬ (Instr.halt 0x49).wf Config.reference := by decide
theorem test_wf_refuses_bound_word_as_inert : ¬ (Instr.inert 0x48).wf Config.reference := by decide
theorem test_wf_refuses_wide_operand : ¬ (Instr.push 0x50 0x100).wf Config.reference := by decide
theorem test_wf_accepts : (Instr.push 0x50 0xFF).wf Config.reference ∧ (Instr.inert 0xFF).wf Config.reference := by decide

/-! ## Decoding: one word of every row, bit by bit from 30_encoding.md R63, and the encoding of the same instruction -/

theorem test_decode_halt : decodeTableWord 8 0b01001000 = some (.halt 0x48) ∧ encode (.halt 0x48) = [0b01001000] := by
  decide
theorem test_decode_jmp : decodeTableWord 16 0b0000010101001010 = some (.jmp 0x4A 5) ∧ encode (.jmp 0x4A 5) = [0b01001010, 5] := by
  decide
theorem test_decode_jz : decodeTableWord 16 0b0000010101011010 = some (.jz 0x5A 5) ∧ encode (.jz 0x5A 5) = [0b01011010, 5] := by
  decide
theorem test_decode_jnz : decodeTableWord 16 0b0000010101001110 = some (.jnz 0x4E 5) ∧ encode (.jnz 0x4E 5) = [0b01001110, 5] := by
  decide
theorem test_decode_call : decodeTableWord 16 0b0000010101000011 = some (.call 0x43 5) ∧ encode (.call 0x43 5) = [0b01000011, 5] := by
  decide
theorem test_decode_ret : decodeTableWord 8 0b01010010 = some (.ret 0x52) ∧ encode (.ret 0x52) = [0b01010010] := by
  decide
theorem test_decode_push : decodeTableWord 16 0b0000010101010000 = some (.push 0x50 5) ∧ encode (.push 0x50 5) = [0b01010000, 5] := by
  decide
theorem test_decode_pop : decodeTableWord 8 0b01110000 = some (.pop 0x70) ∧ encode (.pop 0x70) = [0b01110000] := by
  decide
theorem test_decode_dup : decodeTableWord 8 0b01000100 = some (.dup 0x44) ∧ encode (.dup 0x44) = [0b01000100] := by
  decide
theorem test_decode_swap : decodeTableWord 8 0b01011000 = some (.swap 0x58) ∧ encode (.swap 0x58) = [0b01011000] := by
  decide
theorem test_decode_ld : decodeTableWord 8 0b01001100 = some (.ld 0x4C) ∧ encode (.ld 0x4C) = [0b01001100] := by
  decide
theorem test_decode_st : decodeTableWord 8 0b01010011 = some (.st 0x53) ∧ encode (.st 0x53) = [0b01010011] := by
  decide
theorem test_decode_add : decodeTableWord 8 0b00101011 = some (.add 0x2B) ∧ encode (.add 0x2B) = [0b00101011] := by
  decide
theorem test_decode_sub : decodeTableWord 8 0b00101101 = some (.sub 0x2D) ∧ encode (.sub 0x2D) = [0b00101101] := by
  decide
theorem test_decode_inc : decodeTableWord 8 0b01101001 = some (.inc 0x69) ∧ encode (.inc 0x69) = [0b01101001] := by
  decide
theorem test_decode_dec : decodeTableWord 8 0b01100100 = some (.dec 0x64) ∧ encode (.dec 0x64) = [0b01100100] := by
  decide
theorem test_decode_and : decodeTableWord 8 0b00100110 = some (.and 0x26) ∧ encode (.and 0x26) = [0b00100110] := by
  decide
theorem test_decode_or : decodeTableWord 8 0b01111100 = some (.or 0x7C) ∧ encode (.or 0x7C) = [0b01111100] := by
  decide
theorem test_decode_xor : decodeTableWord 8 0b01011110 = some (.xor 0x5E) ∧ encode (.xor 0x5E) = [0b01011110] := by
  decide
theorem test_decode_not : decodeTableWord 8 0b01111110 = some (.not 0x7E) ∧ encode (.not 0x7E) = [0b01111110] := by
  decide
theorem test_decode_eq : decodeTableWord 8 0b00111101 = some (.eq 0x3D) ∧ encode (.eq 0x3D) = [0b00111101] := by
  decide
theorem test_decode_lt : decodeTableWord 8 0b00111100 = some (.lt 0x3C) ∧ encode (.lt 0x3C) = [0b00111100] := by
  decide
theorem test_decode_gt : decodeTableWord 8 0b00111110 = some (.gt 0x3E) ∧ encode (.gt 0x3E) = [0b00111110] := by
  decide
theorem test_decode_in : decodeTableWord 8 0b01001001 = some (.in_ 0x49) ∧ encode (.in_ 0x49) = [0b01001001] := by
  decide
theorem test_decode_out : decodeTableWord 8 0b01001111 = some (.out 0x4F) ∧ encode (.out 0x4F) = [0b01001111] := by
  decide
theorem test_decode_inert : decodeTableWord 8 0b00000000 = some (.inert 0x00) ∧ encode (.inert 0x00) = [0b00000000] := by
  decide

/-- V9: words next to a bound one are inert. -/
theorem test_decode_unbound :
    decodeTableWord 8 0x68 = some (.inert 0x68) ∧ decodeTableWord 8 0xC8 = some (.inert 0xC8) := by decide

/-- V10, V11, V12: program bytes at other widths. -/
theorem test_decode_narrow :
    decoded (Config.withDefaults 16 7) [0xC8 % 2 ^ 7] = some (.halt 0x48, [])
      ∧ decoded (Config.withDefaults 16 6) [0x2B] = some (.add 0x2B, [])
      ∧ decoded (Config.withDefaults 16 6) [0x48 % 2 ^ 6] = some (.inert 0x08, []) := by decide

/-- 30_encoding.md R61: the operand is never decoded. -/
theorem test_decode_operand_is_literal : decoded Config.reference [0x50, 0x48, 0x4F] = some (.push 0x50 0x48, [0x4F]) := by decide

theorem test_decode_refuses_nothing : decoded Config.reference [] = none := by decide
theorem test_decode_refuses_missing_operand : decoded Config.reference [0x50] = none := by decide

/-! ## Normalisation and memory -/

/-- V1, V2, V3, V4, V5. -/
theorem test_normalisation :
    wordOf Config.reference 256 = 0 ∧ wordOf Config.reference (-1) = 255 ∧ wordOf (Config.withDefaults 16 1) 3 = 1
      ∧ addressOf Config.reference (-1) = 15 ∧ addressOf Config.reference 0x13 = 3 := by decide

theorem test_write_zero_removes_the_entry : ((at' 0 15 [(3, 7)]).write 3 256).mem = [] := by decide
theorem test_write_keeps_the_order : ((at' 0 15 [(3, 7), (9, 1)]).write 21 0x105).mem = [(3, 7), (5, 5), (9, 1)] := by decide

/-! ## One STEP of each instruction -/

/-- V20. -/
theorem test_halt : stepView (at' 0 15 [(0, 0x48)]) 0 = (some .ok, 1, 15, 0x48) ∧ (after (at' 0 15 [(0, 0x48)])).halted = true := by decide

/-- V21, V22. -/
theorem test_halt_at_the_stack_cursor : statusOf (at' 5 6 [(5, 0x48)]) = some .cursorCollision ∧ after (at' 5 6 [(5, 0x48)]) = at' 5 6 [(5, 0x48)]
    ∧ stepView (tolerant (at' 5 6 [(5, 0x48)])) 5 = (some .ok, 6, 6, 0x48) := by decide

/-- V24. -/
theorem test_jmp_wraps : stepView (at' 4 15 [(4, 0x4A), (5, 0x13)]) 4 = (some .ok, 3, 15, 0x4A) := by decide

/-- V25, V26. -/
theorem test_jmp_collides_and_wraps : statusOf (at' 0 15 [(0, 0x4A), (1, 0x0F)]) = some .cursorCollision
    ∧ stepView (at' 15 10 [(0, 5), (15, 0x4A)]) 0 = (some .ok, 5, 10, 5) := by decide

/-- V27, V28. -/
theorem test_jz : (after (at' 6 13 [(6, 0x5A), (7, 2)])).pc = 2 ∧ stepView (at' 6 13 [(6, 0x5A), (7, 2), (14, 7)]) 14 = (some .ok, 8, 14, 7) := by decide

/-- V31. -/
theorem test_jz_collides : statusOf (at' 0 15 [(0, 0x5A), (1, 4)]) = some .cursorCollision := by decide

/-- V29, V30. -/
theorem test_jnz : stepView (at' 6 13 [(6, 0x4E), (7, 2), (14, 0xFF)]) 14 = (some .ok, 2, 14, 0xFF)
    ∧ (after (at' 6 13 [(6, 0x4E), (7, 2)])).pc = 8 := by decide

/-- V32. -/
theorem test_call : stepView (at' 0 15 [(0, 0x43), (1, 9)]) 15 = (some .ok, 9, 14, 2) := by decide

/-- V33. -/
theorem test_call_return_address_wraps : stepView (at' 14 10 [(10, 7), (14, 0x43), (15, 5)]) 10 = (some .ok, 5, 9, 0) := by decide

/-- V35, V36. -/
theorem test_ret : (after (at' 12 14 [(12, 0x52), (15, 2)])).pc = 2 ∧ stepView (at' 12 14 [(12, 0x52), (15, 0x25)]) 15 = (some .ok, 5, 15, 0x25) := by decide

/-- V37. -/
theorem test_ret_onto_the_stack_cursor : statusOf (at' 3 14 [(3, 0x52), (15, 0x0F)]) = some .cursorCollision := by decide

/-- V38, V39. -/
theorem test_inert : stepView (at' 3 15 [(3, 0x41)]) 3 = (some .ok, 4, 15, 0x41) ∧ (after (at' 15 10 [])).pc = 0 := by decide

/-- V40, V42. -/
theorem test_push : stepView (at' 0 15 [(0, 0x50), (1, 2)]) 15 = (some .ok, 2, 14, 2)
    ∧ stepView (at' 0 4 [(0, 0x50), (1, 7)]) 4 = (some .ok, 2, 3, 7) := by decide

/-- V41, V43. -/
theorem test_push_edges : statusOf (at' 0 3 [(0, 0x50), (1, 7)]) = some .cursorCollision
    ∧ stepView (at' 5 0 [(5, 0x50), (6, 9)]) 0 = (some .ok, 7, 15, 9) := by decide

/-- V44, V45. -/
theorem test_pop : stepView (at' 8 14 [(8, 0x70), (15, 6)]) 15 = (some .ok, 9, 15, 6) ∧ (after (at' 5 15 [(5, 0x70)])).sp = 0 := by decide

/-- V46. -/
theorem test_pop_collides : statusOf (at' 0 15 [(0, 0x70)]) = some .cursorCollision := by decide

/-- V47. -/
theorem test_dup : stepView (at' 2 14 [(2, 0x44), (15, 3)]) 14 = (some .ok, 3, 13, 3) := by decide

/-- V48. -/
theorem test_dup_collides : statusOf (at' 4 6 [(4, 0x44), (7, 1)]) = some .cursorCollision := by decide

/-- V49. -/
theorem test_swap : stepView (at' 4 13 [(4, 0x58), (14, 7), (15, 9)]) 14 = (some .ok, 5, 13, 9)
    ∧ (after (at' 4 13 [(4, 0x58), (14, 7), (15, 9)])).read 15 = 7 := by decide

/-- V50, V51. -/
theorem test_ld : stepView (at' 6 13 [(2, 0x50), (6, 0x4C), (14, 2)]) 14 = (some .ok, 7, 13, 0x50)
    ∧ (after (at' 6 13 [(2, 0x50), (6, 0x4C), (14, 0x12)])).read 14 = 0x50 := by decide

/-- V52. -/
theorem test_ld_of_its_own_cell : stepView (at' 6 13 [(6, 0x4C), (14, 0x0E)]) 14 = (some .ok, 7, 13, 0x0E) := by decide

/-- V53. -/
theorem test_st : stepView (at' 6 13 [(6, 0x53), (14, 0x0D), (15, 0x48)]) 13 = (some .ok, 7, 15, 0x48) := by decide

/-- V54. -/
theorem test_st_into_the_next_instruction : (after (after (at' 6 13 [(6, 0x53), (14, 7), (15, 0x48)]))).pc = 8
    ∧ (after (after (at' 6 13 [(6, 0x53), (14, 7), (15, 0x48)]))).halted = true := by decide

/-- V60, V61. -/
theorem test_add : stepView (at' 4 13 [(4, 0x2B), (14, 0x03), (15, 0x02)]) 15 = (some .ok, 5, 14, 0x05)
    ∧ stepView (at' 4 13 [(4, 0x2B), (14, 0x01), (15, 0xFF)]) 15 = (some .ok, 5, 14, 0x00) := by decide

/-- V81, V82. -/
theorem test_add_edges : statusOf (at' 0 14 [(0, 0x2B), (15, 5)]) = some .cursorCollision
    ∧ stepView (at' 5 15 [(0, 0x50), (1, 2), (5, 0x2B)]) 1 = (some .ok, 6, 0, 0x52) := by decide

/-- V62, V63, V64. -/
theorem test_sub : stepView (at' 4 13 [(4, 0x2D), (14, 0x03), (15, 0x05)]) 15 = (some .ok, 5, 14, 0x02)
    ∧ stepView (at' 4 13 [(4, 0x2D), (14, 0x05), (15, 0x03)]) 15 = (some .ok, 5, 14, 0xFE)
    ∧ stepView (at' 4 13 [(4, 0x2D), (14, 0x01)]) 15 = (some .ok, 5, 14, 0xFF) := by decide

/-- V65, V66. -/
theorem test_inc : stepView (at' 4 13 [(4, 0x69), (14, 0xFF)]) 14 = (some .ok, 5, 13, 0x00)
    ∧ stepView (at' 4 13 [(4, 0x69), (14, 0x41)]) 14 = (some .ok, 5, 13, 0x42) := by decide

/-- V67, and the example of 43_arith_logic.md R125. -/
theorem test_dec : stepView (at' 4 13 [(4, 0x64)]) 14 = (some .ok, 5, 13, 0xFF)
    ∧ stepView (at' 4 13 [(4, 0x64), (14, 0x03)]) 14 = (some .ok, 5, 13, 0x02) := by decide

/-- V68. -/
theorem test_and : stepView (at' 4 13 [(4, 0x26), (14, 0x3C), (15, 0x0F)]) 15 = (some .ok, 5, 14, 0x0C) := by decide

/-- V69. -/
theorem test_or : stepView (at' 4 13 [(4, 0x7C), (14, 0x3C), (15, 0x0F)]) 15 = (some .ok, 5, 14, 0x3F) := by decide

/-- V70, V71. -/
theorem test_xor : stepView (at' 4 13 [(4, 0x5E), (14, 0x3C), (15, 0x0F)]) 15 = (some .ok, 5, 14, 0x33)
    ∧ stepView (at' 4 13 [(4, 0x5E), (14, 0x5A), (15, 0x5A)]) 15 = (some .ok, 5, 14, 0x00) := by decide

/-- V72, V73. -/
theorem test_not : stepView (at' 4 13 [(4, 0x7E), (14, 0x0F)]) 14 = (some .ok, 5, 13, 0xF0)
    ∧ stepView (at' 4 13 [(4, 0x7E)]) 14 = (some .ok, 5, 13, 0xFF) := by decide

/-- V74, V75. -/
theorem test_eq : stepView (at' 4 13 [(4, 0x3D), (14, 0x07), (15, 0x07)]) 15 = (some .ok, 5, 14, 0x01)
    ∧ stepView (at' 4 13 [(4, 0x3D), (14, 0x08), (15, 0x07)]) 15 = (some .ok, 5, 14, 0x00) := by decide

/-- V76, V77, V78. -/
theorem test_lt : stepView (at' 4 13 [(4, 0x3C), (14, 0x02), (15, 0x01)]) 15 = (some .ok, 5, 14, 0x01)
    ∧ stepView (at' 4 13 [(4, 0x3C), (14, 0x01), (15, 0xFF)]) 15 = (some .ok, 5, 14, 0x00)
    ∧ stepView (at' 4 13 [(4, 0x3C), (14, 0x05), (15, 0x05)]) 15 = (some .ok, 5, 14, 0x00) := by decide

/-- V79, V80, and the example of 43_arith_logic.md R132. -/
theorem test_gt : stepView (at' 4 13 [(4, 0x3E), (14, 0x01), (15, 0xFF)]) 15 = (some .ok, 5, 14, 0x01)
    ∧ stepView (at' 4 13 [(4, 0x3E), (14, 0x05), (15, 0x05)]) 15 = (some .ok, 5, 14, 0x00)
    ∧ stepView (at' 4 13 [(4, 0x3E), (14, 0x02), (15, 0x01)]) 15 = (some .ok, 5, 14, 0x00) := by decide

/-- V90. -/
theorem test_in : stepView (atIn 9 14 [(9, 0x49)] [0x41]) 14 = (some .ok, 10, 13, 0x41) ∧ (after (atIn 9 14 [(9, 0x49)] [0x41])).input = [] := by decide

/-- V91, V92, V93. -/
theorem test_in_errors : statusOf (at' 9 14 [(9, 0x49)]) = some .inputExhausted ∧ statusOf (at' 9 11 [(9, 0x49)]) = some .inputExhausted
    ∧ statusOf (atIn 9 11 [(9, 0x49)] [5]) = some .cursorCollision ∧ (after (atIn 9 11 [(9, 0x49)] [5])).input = [5] := by decide

/-- V94, V95. -/
theorem test_out : stepView (at' 11 13 [(11, 0x4F), (14, 0x42)]) 14 = (some .ok, 12, 14, 0x42) ∧ (after (at' 11 13 [(11, 0x4F), (14, 0x42)])).output = [0x42]
    ∧ statusOf (at' 0 15 [(0, 0x4F)]) = some .cursorCollision := by decide

/-! ## The transactions -/

/-- V100 and V107: the state after POWER_ON, and a failing first STEP leaves the core READY. -/
theorem test_power_on :
    powerOn (at' 5 6 [(5, 0x48)]) = State.reset ∧ State.reset.fsm = some .ready
      ∧ (State.init (Config.withDefaults 8 8)).sp = 7 ∧ (after (at' 0 15 [(0, 0x70)])).fsm = some .ready := by decide

/-- V101, V102, V104. -/
theorem test_load_statuses :
    load [1, 2, 3, 4, 5] (State.init (Config.withDefaults 4 8)) = (.programTooLarge, State.init (Config.withDefaults 4 8))
      ∧ load [] State.reset = (.emptyProgram, State.reset)
      ∧ (load [0x48] (State.init (Config.withDefaults 16 4))).2.mem = [(0, 8)] := by decide

/-- V103. -/
theorem test_load_while_halted :
    (after (at' 0 15 [(0, 0x48)])).fsm = some .halted
      ∧ load [0x48, 0] (after (at' 0 15 [(0, 0x48)])) = (.ok, at' 0 15 [(0, 0x48)]) := by decide

/-- V108, V109. -/
theorem test_snapshot :
    snapshot (after (at' 0 15 [(0, 0x48)])) =
        ⟨1, 15, true, some ⟨0x48, none⟩, [0x48, 0, 0, 0, 0, 0, 0, 0, 0, 0, 0, 0, 0, 0, 0, 0], []⟩
      ∧ (snapshot (at' 0 13 [(13, 1), (14, 2), (15, 3)])).memorySpSide = [2, 3]
      ∧ (snapshot (at' 0 13 [(13, 1), (14, 2), (15, 3)])).memoryPcSide.length = 14 := by decide

/-- V105, V106: cores of one and of two words. -/
theorem test_tiny_cores :
    statusOf (State.init (Config.withDefaults 1 8)) = some .cursorCollision
      ∧ (after (tolerant (State.init (Config.withDefaults 1 8)))).pc = 0
      ∧ statusOf (load [0x48] (State.init (Config.withDefaults 2 8))).2 = some .cursorCollision := by decide

/-- 00_scope.md R4. -/
theorem test_construction :
    construct (Config.withDefaults 0 8) = .error .invalidArchitecture ∧ construct (Config.withDefaults 8 0) = .error .invalidArchitecture
      ∧ construct (Config.withDefaults 8 65) = .error .invalidArchitecture
      ∧ construct (Config.withDefaults 8 64) = .ok (State.init (Config.withDefaults 8 64)) := by
  exact ⟨rfl, rfl, rfl, rfl⟩

/-- V13, V14. -/
theorem test_loader :
    loadProgramText Config.reference true defaultTerminator (some [0x48, 0x0A]) = .ok [0x48]
      ∧ loadProgramText Config.reference true defaultTerminator (some [0x0A]) = .error .emptyProgram := by
  exact ⟨rfl, rfl⟩

/-- The host's placement of an instruction is what the next STEP runs. -/
theorem test_fetch_word :
    fetchInstr (State.reset.withFetchWord 16 0b0000010101010000) = .push 0x50 5
      ∧ fetchInstr ((after (at' 0 15 [(0, 0x48)])).withFetchWord 8 0b00101011) = .add 0x2B
      ∧ statusOf (State.reset.withFetchWord 16 0b0000010101010000) = some .ok := by decide

/-! ## Witnesses: a concrete state and operands that meet the hypotheses of each statement

For the statements of the form `CommitsTo`, the witness shows a state in which the instruction commits and one in which it
does not, at the edges of the range of 70_reset_and_hazards.md R187. -/

/-- The core whose gap is `g`, with the operands of the stack at 0. -/
def gapOf (g : Nat) : State := at' 0 g []

/-- Whether the condition of R187 and the meaning agree that the instruction commits. -/
def commitsAt (i : Instr) (s : State) : Prop := s.wf ∧ CommitCondition i s ∧ goesOn (exec i s) = true

/-- Whether the condition of R187 and the meaning agree that the instruction collides. -/
def collidesAt (i : Instr) (s : State) : Prop := s.wf ∧ ¬ CommitCondition i s ∧ collides (exec i s) = true

theorem test_witness_HaltStopsTheMachine :
    commitsAt (.halt 0x48) (gapOf 2)
      ∧ collidesAt (.halt 0x48) (gapOf 1) := by
  refine ⟨?_, ?_⟩ <;> ((try simp only [commitsAt, collidesAt, CommitCondition]); decide)

theorem test_witness_InertWordIsANoOp :
    commitsAt (.inert 0) (gapOf 2)
      ∧ commitsAt (.inert 0) (gapOf 15)
      ∧ collidesAt (.inert 0) (gapOf 1) := by
  refine ⟨?_, ?_, ?_⟩ <;> ((try simp only [commitsAt, collidesAt, CommitCondition]); decide)

theorem test_witness_JmpGoesToTheOperand :
    commitsAt (.jmp 0x4A 1) (gapOf 2)
      ∧ collidesAt (.jmp 0x4A 2) (gapOf 2)
      ∧ collidesAt (.jmp 0x4A 3) (gapOf 1) := by
  refine ⟨?_, ?_, ?_⟩ <;> ((try simp only [commitsAt, collidesAt, CommitCondition]); decide)

theorem test_witness_ConditionalJumpsTestThePoppedWord :
    commitsAt (.jz 0x5A 9) (gapOf 2)
      ∧ commitsAt (.jz 0x5A 9) (gapOf 14)
      ∧ collidesAt (.jz 0x5A 9) (gapOf 1)
      ∧ collidesAt (.jz 0x5A 9) (gapOf 15)
      ∧ collidesAt (.jz 0x5A 3) (gapOf 2)
      ∧ commitsAt (.jz 0x5A 3) (at' 0 2 [(3, 1)])
      ∧ commitsAt (.jnz 0x4E 3) (gapOf 2)
      ∧ commitsAt (.jnz 0x4E 9) (gapOf 14)
      ∧ collidesAt (.jnz 0x4E 9) (gapOf 1)
      ∧ collidesAt (.jnz 0x4E 9) (gapOf 15)
      ∧ collidesAt (.jnz 0x4E 3) (at' 0 2 [(3, 1)]) := by
  refine ⟨?_, ?_, ?_, ?_, ?_, ?_, ?_, ?_, ?_, ?_, ?_⟩ <;> ((try simp only [commitsAt, collidesAt, CommitCondition]); decide)

theorem test_witness_CallPushesTheReturnAddress :
    commitsAt (.call 0x43 2) (gapOf 2)
      ∧ collidesAt (.call 0x43 1) (gapOf 2)
      ∧ collidesAt (.call 0x43 9) (gapOf 1) := by
  refine ⟨?_, ?_, ?_⟩ <;> ((try simp only [commitsAt, collidesAt, CommitCondition]); decide)

theorem test_witness_RetGoesToThePoppedWord :
    commitsAt (.ret 0x52) (gapOf 1)
      ∧ commitsAt (.ret 0x52) (gapOf 14)
      ∧ collidesAt (.ret 0x52) (gapOf 0)
      ∧ collidesAt (.ret 0x52) (gapOf 15)
      ∧ collidesAt (.ret 0x52) (at' 0 1 [(2, 2)]) := by
  refine ⟨?_, ?_, ?_, ?_, ?_⟩ <;> ((try simp only [commitsAt, collidesAt, CommitCondition]); decide)

theorem test_witness_PushPushesTheOperand :
    commitsAt (.push 0x50 0xFF) (gapOf 4)
      ∧ commitsAt (.push 0x50 0) (gapOf 15)
      ∧ collidesAt (.push 0x50 0xFF) (gapOf 3)
      ∧ 0xFF < 2 ^ (gapOf 4).cfg.w := by
  refine ⟨?_, ?_, ?_, ?_⟩ <;> ((try simp only [commitsAt, collidesAt, CommitCondition]); decide)

theorem test_witness_PopDiscardsTheTop :
    commitsAt (.pop 0x70) (gapOf 1)
      ∧ commitsAt (.pop 0x70) (gapOf 14)
      ∧ collidesAt (.pop 0x70) (gapOf 0)
      ∧ collidesAt (.pop 0x70) (gapOf 15) := by
  refine ⟨?_, ?_, ?_, ?_⟩ <;> ((try simp only [commitsAt, collidesAt, CommitCondition]); decide)

theorem test_witness_OutEmitsThePoppedWord :
    commitsAt (.out 0x4F) (gapOf 1)
      ∧ commitsAt (.out 0x4F) (gapOf 14)
      ∧ collidesAt (.out 0x4F) (gapOf 0)
      ∧ collidesAt (.out 0x4F) (gapOf 15) := by
  refine ⟨?_, ?_, ?_, ?_⟩ <;> ((try simp only [commitsAt, collidesAt, CommitCondition]); decide)

theorem test_witness_DupCopiesTheTop :
    commitsAt (.dup 0x44) (gapOf 3)
      ∧ commitsAt (.dup 0x44) (gapOf 14)
      ∧ collidesAt (.dup 0x44) (gapOf 2)
      ∧ collidesAt (.dup 0x44) (gapOf 15) := by
  refine ⟨?_, ?_, ?_, ?_⟩ <;> ((try simp only [commitsAt, collidesAt, CommitCondition]); decide)

theorem test_witness_SwapExchangesTheTwoTopWords :
    commitsAt (.swap 0x58) (gapOf 2)
      ∧ commitsAt (.swap 0x58) (gapOf 13)
      ∧ collidesAt (.swap 0x58) (gapOf 1)
      ∧ collidesAt (.swap 0x58) (gapOf 14)
      ∧ commitsAt (.swap 0x58) (tolerant (State.init (Config.withDefaults 1 8))) := by
  refine ⟨?_, ?_, ?_, ?_, ?_⟩ <;> ((try simp only [commitsAt, collidesAt, CommitCondition]); decide)

theorem test_witness_LdReplacesTheAddressByItsWord :
    commitsAt (.ld 0x4C) (gapOf 2)
      ∧ commitsAt (.ld 0x4C) (gapOf 14)
      ∧ collidesAt (.ld 0x4C) (gapOf 1)
      ∧ collidesAt (.ld 0x4C) (gapOf 15) := by
  refine ⟨?_, ?_, ?_, ?_⟩ <;> ((try simp only [commitsAt, collidesAt, CommitCondition]); decide)

theorem test_witness_StStoresTheSecondWordAtTheTopAddress :
    commitsAt (.st 0x53) (gapOf 1)
      ∧ commitsAt (.st 0x53) (gapOf 13)
      ∧ collidesAt (.st 0x53) (gapOf 0)
      ∧ collidesAt (.st 0x53) (gapOf 14) := by
  refine ⟨?_, ?_, ?_, ?_⟩ <;> ((try simp only [commitsAt, collidesAt, CommitCondition]); decide)

theorem test_witness_AddAndSubAreModular :
    commitsAt (.add 0x2B) (gapOf 1)
      ∧ commitsAt (.add 0x2B) (gapOf 13)
      ∧ collidesAt (.add 0x2B) (gapOf 0)
      ∧ collidesAt (.add 0x2B) (gapOf 14)
      ∧ commitsAt (.sub 0x2D) (gapOf 1)
      ∧ commitsAt (.sub 0x2D) (gapOf 13)
      ∧ collidesAt (.sub 0x2D) (gapOf 0)
      ∧ collidesAt (.sub 0x2D) (gapOf 14) := by
  refine ⟨?_, ?_, ?_, ?_, ?_, ?_, ?_, ?_⟩ <;> ((try simp only [commitsAt, collidesAt, CommitCondition]); decide)

theorem test_witness_BitwiseOperationsWorkOnEachBit :
    commitsAt (.and 0x26) (gapOf 1)
      ∧ commitsAt (.and 0x26) (gapOf 13)
      ∧ collidesAt (.and 0x26) (gapOf 0)
      ∧ collidesAt (.and 0x26) (gapOf 14)
      ∧ commitsAt (.or 0x7C) (gapOf 1)
      ∧ commitsAt (.or 0x7C) (gapOf 13)
      ∧ collidesAt (.or 0x7C) (gapOf 0)
      ∧ collidesAt (.or 0x7C) (gapOf 14)
      ∧ commitsAt (.xor 0x5E) (gapOf 1)
      ∧ commitsAt (.xor 0x5E) (gapOf 13)
      ∧ collidesAt (.xor 0x5E) (gapOf 0)
      ∧ collidesAt (.xor 0x5E) (gapOf 14) := by
  refine ⟨?_, ?_, ?_, ?_, ?_, ?_, ?_, ?_, ?_, ?_, ?_, ?_⟩ <;> ((try simp only [commitsAt, collidesAt, CommitCondition]); decide)

theorem test_witness_ComparisonsPushOneOrZero :
    commitsAt (.eq 0x3D) (gapOf 1)
      ∧ commitsAt (.eq 0x3D) (gapOf 13)
      ∧ collidesAt (.eq 0x3D) (gapOf 0)
      ∧ collidesAt (.eq 0x3D) (gapOf 14)
      ∧ commitsAt (.lt 0x3C) (gapOf 1)
      ∧ commitsAt (.lt 0x3C) (gapOf 13)
      ∧ collidesAt (.lt 0x3C) (gapOf 0)
      ∧ collidesAt (.lt 0x3C) (gapOf 14)
      ∧ commitsAt (.gt 0x3E) (gapOf 1)
      ∧ commitsAt (.gt 0x3E) (gapOf 13)
      ∧ collidesAt (.gt 0x3E) (gapOf 0)
      ∧ collidesAt (.gt 0x3E) (gapOf 14) := by
  refine ⟨?_, ?_, ?_, ?_, ?_, ?_, ?_, ?_, ?_, ?_, ?_, ?_⟩ <;> ((try simp only [commitsAt, collidesAt, CommitCondition]); decide)

theorem test_witness_UnaryOperationsWorkInPlace :
    commitsAt (.inc 0x69) (gapOf 2)
      ∧ commitsAt (.inc 0x69) (gapOf 14)
      ∧ collidesAt (.inc 0x69) (gapOf 1)
      ∧ collidesAt (.inc 0x69) (gapOf 15)
      ∧ commitsAt (.dec 0x64) (gapOf 2)
      ∧ commitsAt (.dec 0x64) (gapOf 14)
      ∧ collidesAt (.dec 0x64) (gapOf 1)
      ∧ collidesAt (.dec 0x64) (gapOf 15)
      ∧ commitsAt (.not 0x7E) (gapOf 2)
      ∧ commitsAt (.not 0x7E) (gapOf 14)
      ∧ collidesAt (.not 0x7E) (gapOf 1)
      ∧ collidesAt (.not 0x7E) (gapOf 15) := by
  refine ⟨?_, ?_, ?_, ?_, ?_, ?_, ?_, ?_, ?_, ?_, ?_, ?_⟩ <;> ((try simp only [commitsAt, collidesAt, CommitCondition]); decide)

theorem test_witness_InPushesTheHeadOfTheChannel :
    commitsAt (.in_ 0x49) (atIn 0 3 [] [0xFF, 1])
      ∧ collidesAt (.in_ 0x49) (atIn 0 2 [] [0xFF, 1])
      ∧ (atIn 0 3 [] [0xFF, 1]).input = 0xFF :: [1] := by
  refine ⟨?_, ?_, ?_⟩ <;> ((try simp only [commitsAt, collidesAt, CommitCondition]); decide)

theorem test_witness_InOnAnEmptyChannelHolds :
    (at' 9 14 [(9, 0x49)]).input = [] := by
  decide

theorem test_witness_ReferenceBindingAndItsReach :
    (∀ row ∈ rb1, row.1 ≠ 0)
      ∧ rb1.lookup 0x3E = .gt ∧ 0x3E < 2 ^ 6 ∧ rb1.lookup 0x7E = .not ∧ 0x7E < 2 ^ 7 := by
  refine ⟨?_, ?_⟩ <;> decide

theorem test_witness_DecodeEncodeRoundTrip :
    (Instr.push 0x50 0xFF).wf Config.reference
      ∧ (Instr.halt 0x48).wf Config.reference
      ∧ (Instr.inert 0).wf (Config.withDefaults 16 1) := by
  refine ⟨?_, ?_, ?_⟩ <;> decide

theorem test_witness_DecodedWordsAreTheEncoding :
    (∀ x ∈ [0x50, 0xFF, 7], x < 2 ^ Config.reference.w)
      ∧ decoded Config.reference [0x50, 0xFF, 7] = some (.push 0x50 0xFF, [7])
      ∧ decoded Config.reference [0x48, 7] = some (.halt 0x48, [7]) := by
  refine ⟨?_, ?_, ?_⟩ <;> decide

theorem test_witness_MemWriteSetsExactlyOneWord :
    (at' 0 15 [(0, 1), (15, 0xFF)]).wf := by
  decide

theorem test_witness_StackPrimitives :
    (at' 0 0 [(0, 1), (15, 0xFF)]).wf
      ∧ (State.init (Config.withDefaults 1 8)).wf := by
  refine ⟨?_, ?_⟩ <;> decide

/-- `N ≤ 2^W`, and V34: `N > 2^W`, where the return address 20 is cut to 4. -/
theorem test_witness_RetAfterCallReturnsModWordSize :
    (at' 14 10 []).wf ∧ goesOn (exec (.call 0x43 5) (at' 14 10 [])) = true
      ∧ goesOn (exec (.ret 0x52) (orElse State.reset (exec (.call 0x43 5) (at' 14 10 [])))) = true
      ∧ ({ State.init { Config.withDefaults 32 4 with opmap := [(3, .call), (2, .ret)] } with pc := 18 } : State).wf
      ∧ goesOn (exec (.call 3 5) { State.init { Config.withDefaults 32 4 with opmap := [(3, .call), (2, .ret)] } with pc := 18 }) = true
      ∧ (orElse State.reset (exec (.ret 2) (orElse State.reset (exec (.call 3 5)
          { State.init { Config.withDefaults 32 4 with opmap := [(3, .call), (2, .ret)] } with pc := 18 })))).pc = 4 := by decide

theorem test_witness_StoreIntoTheNextInstructionIsFetched :
    (at' 6 13 [(6, 0x53), (14, 7), (15, 0x48)]).wf
      ∧ addressOf (at' 6 13 [(6, 0x53), (14, 7), (15, 0x48)]).cfg ((at' 6 13 [(6, 0x53), (14, 7), (15, 0x48)]).read 14) = addressOf (at' 6 13 [(6, 0x53), (14, 7), (15, 0x48)]).cfg 7
      ∧ goesOn (exec (.st 0x53) (at' 6 13 [(6, 0x53), (14, 7), (15, 0x48)])) = true := by
  refine ⟨?_, ?_, ?_⟩ <;> decide

theorem test_witness_SuppliedInputLiftsTheHold :
    (at' 0 3 [(0, 0x49)]).wf
      ∧ (at' 0 3 [(0, 0x49)]).held
      ∧ GapAtLeast (at' 0 3 [(0, 0x49)]) 3
      ∧ goesOn (step (at' 0 3 [(0, 0x49)])) = true
      ∧ goesOn (step (supplyInput [-1] (at' 0 3 [(0, 0x49)]))) = true := by
  refine ⟨?_, ?_, ?_, ?_, ?_⟩ <;> ((try simp only [State.held]); decide)

theorem test_witness_StepRunsTheFetchedInstruction :
    State.reset.wf ∧ State.reset.halted = false
      ∧ decoded State.reset.cfg [State.reset.read 0, State.reset.read 1] = some (.inert 0, [0])
      ∧ decoded Config.reference [(at' 15 10 [(0, 5), (15, 0x4A)]).read 15, (at' 15 10 [(0, 5), (15, 0x4A)]).read 16] = some (.jmp 0x4A 5, []) := by
  refine ⟨?_, ?_, ?_⟩ <;> decide

theorem test_witness_HaltGateChangesNothing :
    (after (at' 0 15 [(0, 0x48)])).halted = true
      ∧ statusOf (after (at' 0 15 [(0, 0x48)])) = some .alreadyHalted := by
  refine ⟨?_, ?_⟩ <;> decide

theorem test_witness_StatusOfEveryStep :
    (gapOf 2).wf ∧ (gapOf 2).halted = false
      ∧ (after (at' 0 15 [(0, 0x48)])).wf ∧ (after (at' 0 15 [(0, 0x48)])).halted = true
      ∧ (at' 9 11 [(9, 0x49)]).wf ∧ (fetchInstr (at' 9 11 [(9, 0x49)])).op = .in_ ∧ (at' 9 11 [(9, 0x49)]).input = []
      ∧ (fetchInstr (gapOf 1)).op ≠ .in_ ∧ statusOf (gapOf 1) = some .cursorCollision
      ∧ statusOf (gapOf 2) = some .ok := by
  refine ⟨?_, ?_, ?_, ?_, ?_⟩ <;> decide

theorem test_witness_AnErrorCommitsNothing :
    statusOf (after (at' 0 15 [(0, 0x48)])) = some .alreadyHalted
      ∧ statusOf (at' 9 11 [(9, 0x49)]) = some .inputExhausted
      ∧ statusOf (gapOf 1) = some .cursorCollision := by
  refine ⟨?_, ?_, ?_⟩ <;> decide

theorem test_witness_CommittedStatementIsTheFetchedWords :
    statusOf (gapOf 2) = some .ok
      ∧ statusOf (at' 4 15 [(4, 0x4A), (5, 0x13)]) = some .ok
      ∧ (after (at' 4 15 [(4, 0x4A), (5, 0x13)])).lastStatement = some ⟨0x4A, some 0x13⟩ := by
  refine ⟨?_, ?_, ?_⟩ <;> decide

theorem test_witness_OnlyHaltSetsHalted :
    goesOn (step (gapOf 2)) = true ∧ (after (gapOf 2)).halted = false
      ∧ goesOn (step (at' 0 15 [(0, 0x48)])) = true ∧ (after (at' 0 15 [(0, 0x48)])).halted = true := by
  refine ⟨?_, ?_⟩ <;> decide

theorem test_witness_ChannelsChangeAsDriven :
    (stepTransaction (atIn 9 14 [(9, 0x49)] [5, 6])).1.map (fun p => p.inAck) = some true
      ∧ (stepTransaction (at' 11 13 [(11, 0x4F)])).1.map (fun p => p.outValid) = some true := by
  refine ⟨?_, ?_⟩ <;> decide

theorem test_witness_StackEffectIsAsTheTableSays :
    (gapOf 3).wf ∧ goesOn (exec (.dup 0x44) (gapOf 3)) = true ∧ (Instr.dup 0x44).op ≠ .in_
      ∧ (at' 6 13 [(6, 0x53), (14, 7), (15, 0x48)]).wf ∧ goesOn (exec (.st 0x53) (at' 6 13 [(6, 0x53), (14, 7), (15, 0x48)])) = true
      ∧ goesOn (exec (.in_ 0x49) (atIn 0 3 [] [1])) = true ∧ (atIn 0 3 [] [1]).input ≠ [] := by
  refine ⟨?_, ?_, ?_⟩ <;> decide

theorem test_witness_OnlyTheStackOperandsAreRead :
    (at' 4 13 [(4, 0x2B), (14, 3)]).wf ∧ Memory.wf Config.reference [(7, 1), (14, 3)]
      ∧ (∀ j < (Instr.add 0x2B).op.reads, (at' 4 13 [(7, 1), (14, 3)]).read (13 + 1 + j) = (at' 4 13 [(4, 0x2B), (14, 3)]).read (13 + 1 + j))
      ∧ goesOn (exec (.add 0x2B) (at' 4 13 [(4, 0x2B), (14, 3)])) = true
      ∧ (at' 4 13 [(3, 9), (7, 1), (14, 3)]).read 3 = (at' 4 13 [(3, 9), (14, 3)]).read 3
      ∧ goesOn (exec (.ld 0x4C) (at' 4 13 [(3, 9), (14, 3)])) = true
      ∧ collides (exec (.add 0x2B) (gapOf 14)) = true := by
  refine ⟨?_, ?_, ?_, ?_, ?_, ?_⟩ <;> decide

theorem test_witness_OnlyInReadsTheInputChannel :
    (fetchInstr (gapOf 2)).op ≠ .in_
      ∧ (fetchInstr (atIn 9 14 [(9, 0x49)] [5, 6])).op = .in_
      ∧ (atIn 9 14 [(9, 0x49)] [5, 6]).input = 5 :: [6]
      ∧ goesOn (step (atIn 9 14 [(9, 0x49)] [5, 6])) = true := by
  refine ⟨?_, ?_, ?_, ?_⟩ <;> decide

theorem test_witness_TolerateNeverCollides :
    (tolerant (gapOf 0)).cfg.policy = .tolerate ∧ (tolerant (gapOf 0)).halted = false := by
  decide

theorem test_witness_MeetingCursorsAlwaysCollide :
    (gapOf 0).wf ∧ (gapOf 0).cfg.policy = .fault ∧ (gapOf 0).pc = (gapOf 0).sp
      ∧ collides (exec (.pop 0x70) (gapOf 0)) = true ∧ (Instr.pop 0x70).op ≠ .in_
      ∧ (atIn 0 0 [] [1]).input ≠ [] ∧ (atIn 0 0 [] [1]).pc = (atIn 0 0 [] [1]).sp := by
  refine ⟨?_, ?_, ?_⟩ <;> decide

theorem test_witness_StepKeepsTheStateInvariants :
    (gapOf 2).wf ∧ goesOn (step (gapOf 2)) = true
      ∧ (at' 6 13 [(6, 0x53), (14, 7), (15, 0x48)]).wf ∧ goesOn (step (at' 6 13 [(6, 0x53), (14, 7), (15, 0x48)])) = true ∧ (after (at' 6 13 [(6, 0x53), (14, 7), (15, 0x48)])).wf := by
  refine ⟨?_, ?_⟩ <;> decide

theorem test_witness_HostTransactionsKeepTheStateInvariants :
    (after (at' 0 15 [(0, 0x48)])).wf := by
  decide

theorem test_witness_NoCommittedStepMakesTheCursorsMeet :
    (gapOf 2).wf ∧ (gapOf 2).cfg.policy = .fault ∧ statusOf (gapOf 2) = some .ok ∧ (after (gapOf 2)).sp = (after (gapOf 2)).pc + 1 := by
  decide

theorem test_witness_HaltedCoreHoldsTheHaltStatement :
    State.reset.haltedAfterHalt ∧ goesOn (step State.reset) = true
      ∧ (at' 0 15 [(0, 0x48)]).haltedAfterHalt ∧ goesOn (step (at' 0 15 [(0, 0x48)])) = true
      ∧ (after (at' 0 15 [(0, 0x48)])).haltedAfterHalt := by
  refine ⟨?_, ?_, ?_⟩ <;> decide

theorem test_witness_FsmTransitions :
    (transact (.load [1]) State.reset).1 = .load .ok ∧ (transact (.load []) State.reset).1 = .load .emptyProgram
      ∧ (after (at' 0 15 [(0, 0x48)])).fsm = some .halted
      ∧ State.reset.fsm = some .ready ∧ statusOf State.reset = some .ok ∧ (after State.reset).fsm = some .running
      ∧ statusOf (after State.reset) = some .ok
      ∧ statusOf (gapOf 1) = some .cursorCollision ∧ (gapOf 1).fsm = some .ready := by
  refine ⟨?_, ?_, ?_, ?_, ?_⟩ <;> decide

/-- A run of each kind: HALT, a collision, a held IN; `JumpToItselfHangs` has the hang. -/
theorem test_witness_ARunEndsInExactlyOneWay :
    EndsWell (at' 0 15 [(0, 0x48)]) ∧ EndsBadly (gapOf 1) ∧ IsHeld (at' 9 14 [(9, 0x49)]) :=
  ⟨⟨1, after (at' 0 15 [(0, 0x48)]), rfl, by decide⟩, ⟨1, rfl⟩, ⟨0, _, rfl, by simp only [State.held]; decide⟩⟩

theorem test_witness_JumpToItselfHangs :
    (at' 4 6 [(4, 0x4A), (5, 0x14)]).wf ∧ (at' 4 6 [(4, 0x4A), (5, 0x14)]).halted = false
      ∧ fetchInstr (at' 4 6 [(4, 0x4A), (5, 0x14)]) = .jmp 0x4A 0x14
      ∧ addressOf Config.reference 0x14 = 4 ∧ GapAtLeast (at' 4 6 [(4, 0x4A), (5, 0x14)]) 2 := by
  refine ⟨?_, ?_, ?_⟩ <;> decide

theorem test_witness_ConstructionChecksTheArchitecture :
    (Config.withDefaults 1 1).valid ∧ (Config.withDefaults 16 64).valid
      ∧ ¬ (Config.withDefaults 0 8).valid ∧ ¬ (Config.withDefaults 8 0).valid ∧ ¬ (Config.withDefaults 8 65).valid := by
  refine ⟨?_, ?_⟩ <;> decide

theorem test_witness_LoadPlacesTheProgramAndResets :
    (at' 3 9 [(4, 7)]).wf
      ∧ ([] : List Nat).length = 0
      ∧ (at' 3 9 [(4, 7)]).cfg.n < (List.replicate 17 1).length
      ∧ 1 ≤ (List.replicate 16 1).length ∧ (List.replicate 16 1).length ≤ (at' 3 9 [(4, 7)]).cfg.n
      ∧ (load (List.replicate 16 1) (at' 3 9 [(4, 7)])).1 = .ok := by
  refine ⟨?_, ?_, ?_, ?_, ?_⟩ <;> decide

theorem test_witness_LoadForgetsTheEarlierRun :
    (at' 3 9 [(4, 7)]).cfg = State.reset.cfg ∧ (at' 3 9 [(4, 7)]).input = State.reset.input
      ∧ (at' 3 9 [(4, 7)]).output = State.reset.output ∧ (load [0x48] (at' 3 9 [(4, 7)])).1 = .ok := by
  refine ⟨?_, ?_⟩ <;> decide

theorem test_witness_SnapshotShowsTheWholeMemory :
    (at' 3 9 [(4, 7)]).wf
      ∧ (gapOf 0).wf ∧ (gapOf 15).wf := by
  refine ⟨?_, ?_⟩ <;> decide

theorem test_witness_LoaderContract :
    ([0x48] : List Byte) ≠ [] ∧ ([0x48] : List Byte).getLast? ≠ some defaultTerminator
      ∧ loadProgramText Config.reference true defaultTerminator (some [0x48, 0x0A]) = .ok [0x48] := by
  exact ⟨by decide, by decide, rfl⟩

end Sys2Proof.Tests
end

