-- ==== Sys2Proof/Proofs/Scope.lean ====
section
/-! The construction of a core (00_scope.md R4, R6): which parameters it refuses, and the core it builds from the
others. -/

namespace Sys2Proof.Machine

/-- The invariants hold at power-on of a core with legal parameters (10_state.md R31, R32). -/
theorem State.init_wf {c : Config} (h : c.valid) : (State.init c).wf := by
  have ⟨hn, _, _, hsp⟩ := h
  exact ⟨h, Memory.wf_nil c, hn, hsp, by simp, by simp, by simp, by simp⟩

/-- A core just built has empty channels, so POWER_ON finds nothing to change (70_reset_and_hazards.md R180). -/
@[simp] theorem powerOn_init (c : Config) : powerOn (State.init c) = State.init c := rfl

/-- The check of `N`, `W` and `WMAX` comes first, and the one of `SP_INIT` has another error (log 15). -/
theorem construct_eq_invalidArchitecture_iff (c : Config) :
    construct c = .error .invalidArchitecture ↔ c.n = 0 ∨ c.w = 0 ∨ c.wmax < c.w := by
  unfold construct
  split
  · next hbad => simp [hbad]
  · next hok => split <;> simp [hok]

/-- Legal parameters pass both checks (00_scope.md R4, R6). -/
theorem construct_of_valid {c : Config} (h : c.valid) : construct c = .ok (State.init c) := by
  obtain ⟨hn, hw, hwmax, hsp⟩ := h
  have harch : ¬ (c.n = 0 ∨ c.w = 0 ∨ c.wmax < c.w) := by omega
  rw [construct, if_neg harch, if_neg (Nat.not_le.mpr hsp)]

/-- Settles O52: the refusals are those of the first check, and a legal core is built in its power-on state. -/
theorem constructionChecksTheArchitecture : Obligations.ConstructionChecksTheArchitecture := fun c =>
  ⟨construct_eq_invalidArchitecture_iff c, fun h =>
    ⟨State.init c, construct_of_valid h, State.init_cfg c, State.init_wf h, powerOn_init c⟩⟩

end Sys2Proof.Machine
end

/-! The invariants of the state (10_state.md R31): at reset, under the host's transactions and under every STEP, and the
cursors, which no committed STEP makes meet under FAULT. -/

namespace Sys2Proof.Machine

/-! ## Congruence of addresses -/

/-- Two integers name one address where they differ by a multiple of `N` (20_memory.md R41). -/
theorem addressOf_eq_iff {c : Config} (h : 1 ≤ c.n) (x y : Int) :
    addressOf c x = addressOf c y ↔ (c.n : Int) ∣ x - y := by
  rw [← Int.natCast_inj, addressOf_cast h, addressOf_cast h, Int.emod_eq_emod_iff_emod_sub_eq_zero,
    Int.dvd_iff_emod_eq_zero]

/-- Wrapping before a displacement is lost in the wrapping after it. -/
theorem addressOf_addressOf_add {c : Config} (h : 1 ≤ c.n) (x d : Int) :
    addressOf c ((addressOf c x : Int) + d) = addressOf c (x + d) := by
  rw [addressOf_cast h]
  simp [addressOf]

theorem addressOf_addressOf_sub {c : Config} (h : 1 ≤ c.n) (x d : Int) :
    addressOf c ((addressOf c x : Int) - d) = addressOf c (x - d) :=
  addressOf_addressOf_add h x (-d)

/-- A displacement shorter than the array that is not 0 leads to another address. -/
theorem addressOf_ne_of_lt {c : Config} (h : 1 ≤ c.n) {x y : Int} (hlt : x < y) (hn : y < x + c.n) :
    addressOf c x ≠ addressOf c y := by
  intro heq
  have hle := Int.le_of_dvd (by omega) ((addressOf_eq_iff h y x).mp heq.symm)
  omega

/-- The gap is the way from `pc` to `sp` (40_step_engine.md R86). -/
theorem addressOf_pc_add_gap {s : State} (h : 1 ≤ s.cfg.n) (d : Int) :
    addressOf s.cfg ((s.pc : Int) + s.gap + d) = addressOf s.cfg ((s.sp : Int) + d) := by
  have hcomm : (s.pc : Int) + s.gap + d = s.gap + (s.pc + d) := by omega
  rw [hcomm, State.gap, addressOf_addressOf_add h]
  congr 1
  omega

/-! ## The invariants under the updates of a state -/

theorem State.write_wf {s : State} (h : s.wf) (a v : Int) : (s.write a v).wf := by
  obtain ⟨hcfg, hmem, hrest⟩ := h
  exact ⟨hcfg, Memory.write_wf hmem (addressOf_lt hcfg.1 a) (wordOf_lt s.cfg v), hrest⟩

theorem State.setSp_wf {s : State} (h : s.wf) (a : Int) : (s.setSp a).wf := by
  obtain ⟨hcfg, hmem, hpc, -, hrest⟩ := h
  exact ⟨hcfg, hmem, hpc, addressOf_lt hcfg.1 a, hrest⟩

theorem State.setPc_wf {s : State} (h : s.wf) (a : Int) : (s.setPc a).wf := by
  obtain ⟨hcfg, hmem, -, hrest⟩ := h
  exact ⟨hcfg, hmem, addressOf_lt hcfg.1 a, hrest⟩

theorem State.push_wf {s : State} (h : s.wf) (v : Int) : (s.push v).wf :=
  State.setSp_wf (State.write_wf h s.sp v) _

theorem State.pop_wf {s : State} (h : s.wf) : s.pop.2.wf := State.setSp_wf h _

/-- A cell reads as a `W`-bit word (20_memory.md R40). -/
theorem State.read_lt {s : State} (h : s.wf) (a : Int) : s.read a < 2 ^ s.cfg.w := by
  obtain ⟨-, hmem, -⟩ := h
  exact Memory.read_lt hmem _

/-! ## The invariants of the working copy -/

/-- What the working copy of a STEP must keep for its commit to have the invariants: those of the state in it, and a
`W`-bit word for the output channel (44_io.md R141). -/
structure Work.Wf (t : Work) : Prop where
  state : t.st.wf
  out_lt : ∀ x ∈ t.out, x < 2 ^ t.st.cfg.w

namespace Work.Wf

theorem start {s : State} (h : s.wf) : (Work.start s).Wf := ⟨h, by simp⟩

variable {t : Work}

theorem push (h : t.Wf) (v : Int) : (t.push v).Wf := ⟨State.push_wf h.state v, h.out_lt⟩

theorem pop (h : t.Wf) : t.pop.2.Wf := ⟨State.pop_wf h.state, h.out_lt⟩

theorem write (h : t.Wf) (a v : Int) : (t.write a v).Wf := ⟨State.write_wf h.state a v, h.out_lt⟩

theorem redirect (h : t.Wf) (a : Int) : (t.redirect a).Wf := ⟨State.setPc_wf h.state a, h.out_lt⟩

theorem emit (h : t.Wf) (v : Int) : (t.emit v).Wf := ⟨h.state, by simp [wordOf_lt]⟩

theorem binOp (h : t.Wf) (f : Nat → Nat → Nat) : (t.binOp f).Wf := h.pop.pop.push _

theorem unOp (h : t.Wf) (f : Nat → Nat) : (t.unOp f).Wf := h.pop.push _

theorem jumpIf (h : t.Wf) (test : Nat → Bool) (opnd : Nat) : (t.jumpIf test opnd).Wf := by
  cases htest : test t.pop.1 with
  | true => rw [Work.jumpIf_of_true htest]; exact h.pop.redirect opnd
  | false => rw [Work.jumpIf_of_false htest]; exact h.pop

theorem advance (h : t.Wf) (s : State) (k : Nat) : (t.advance s k).Wf := by
  cases hred : t.redirected with
  | true => rw [Work.advance_of_redirected hred]; exact h
  | false => rw [Work.advance_of_seq hred]; exact ⟨State.setPc_wf h.state _, h.out_lt⟩

end Work.Wf

/-- `In()` gives the head of a channel that is not empty, and marks the working copy. -/
theorem Work.takeInput_ok {t t' : Work} {x : Nat} (h : t.takeInput = .ok (x, t')) : t' = { t with inTake := true } := by
  cases hin : t.st.input with
  | nil => simp [Work.takeInput, hin] at h
  | cons y ys => simp [Work.takeInput, hin] at h; exact h.2.symm

/-- IN pushes the word it takes (44_io.md R142). -/
theorem execBody_in_ok {w0 : Nat} {s : State} {t t' : Work} (h : execBody (.in_ w0) s t = .ok t') :
    ∃ x : Nat, t' = Work.push { t with inTake := true } x := by
  cases hin : t.takeInput with
  | error e => simp [execBody, hin] at h
  | ok r =>
    simp only [execBody, hin, Except.ok.injEq] at h
    exact ⟨r.1, by rw [← h, Work.takeInput_ok hin]⟩

/-- Every `Exec` phase keeps the invariants of the working copy: it is made of the operations above. -/
theorem execBody_wf {i : Instr} {s : State} {t t' : Work} (ht : t.Wf) (h : execBody i s t = .ok t') : t'.Wf := by
  cases i with
  | halt _ | inert _ => obtain rfl := Except.ok.inj h; exact ht
  | jmp _ opnd => obtain rfl := Except.ok.inj h; exact ht.redirect opnd
  | jz _ opnd | jnz _ opnd => obtain rfl := Except.ok.inj h; exact ht.jumpIf _ opnd
  | call _ opnd => obtain rfl := Except.ok.inj h; exact (ht.push _).redirect opnd
  | ret _ => obtain rfl := Except.ok.inj h; exact ht.pop.redirect _
  | push _ opnd => obtain rfl := Except.ok.inj h; exact ht.push opnd
  | pop _ => obtain rfl := Except.ok.inj h; exact ht.pop
  | dup _ => obtain rfl := Except.ok.inj h; exact ht.push _
  | swap _ => obtain rfl := Except.ok.inj h; exact (ht.pop.pop.push _).push _
  | ld _ => obtain rfl := Except.ok.inj h; exact ht.pop.push _
  | st _ => obtain rfl := Except.ok.inj h; exact ht.pop.pop.write _ _
  | inc _ | dec _ | not _ => obtain rfl := Except.ok.inj h; exact ht.unOp _
  | add _ | sub _ | and _ | or _ | xor _ | eq _ | lt _ | gt _ => obtain rfl := Except.ok.inj h; exact ht.binOp _
  | in_ _ =>
    obtain ⟨x, rfl⟩ := execBody_in_ok h
    exact Work.Wf.push (t := { t with inTake := true }) ⟨ht.state, ht.out_lt⟩ x
  | out _ => obtain rfl := Except.ok.inj h; exact ht.pop.emit _

theorem execBody_cfg {i : Instr} {s : State} {t t' : Work} (h : execBody i s t = .ok t') :
    t'.st.cfg = t.st.cfg := by
  obtain ⟨hst, -⟩ := execBody_frame h
  rw [hst]

@[simp] theorem Work.advance_cfg (t : Work) (s : State) (k : Nat) : (t.advance s k).st.cfg = t.st.cfg := by
  rw [Work.advance_frame]

/-! ## The invariants under a STEP -/

/-- The words an instruction is made of at its fetch are `W`-bit words (40_step_engine.md R82, R83). -/
theorem fetchInstr_stmt_fits {s : State} (h : s.wf) : Stmt.fits s.cfg (fetchInstr s).stmt := by
  refine ⟨?_, fun y hy => ?_⟩
  · show (fetchInstr s).opcode < _
    rw [fetchInstr_opcode]
    exact State.read_lt h _
  · change y ∈ (fetchInstr s).payload at hy
    rw [fetchInstr_payload] at hy
    split at hy
    · obtain rfl := Option.mem_some.mp hy
      exact State.read_lt h _
    · cases hy

/-- The commit consumes input, appends the output word and records the Statement, each a `W`-bit word. -/
theorem commit_wf {t : Work} (h : t.Wf) (op : Op) {x : Stmt} (hx : Stmt.fits t.st.cfg x) : (commit t op x).wf := by
  obtain ⟨⟨hcfg, hmem, hpc, hsp, -, -, hin, hout⟩, hword⟩ := h
  refine ⟨hcfg, hmem, hpc, hsp, fun _ => rfl, ?_, ?_, ?_⟩
  · intro y hy
    obtain rfl := Option.mem_some.mp hy
    exact hx
  · intro y hy
    rw [commit_input] at hy
    split at hy
    · exact hin y (List.mem_of_mem_tail hy)
    · exact hin y hy
  · intro y hy
    rcases List.mem_append.mp hy with hy | hy
    · exact hout y hy
    · exact hword y (Option.mem_toList.mp hy)

/-- Settles O44: a hold changes the driven outputs alone, and a commit is that of a working copy with the invariants. -/
theorem stepKeepsTheStateInvariants : Obligations.StepKeepsTheStateInvariants := by
  intro s t hs hstep
  obtain ⟨-, hexec⟩ := step_next hstep
  rcases exec_next_cases hexec with ⟨-, -, rfl⟩ | ⟨w, hbody, -, rfl⟩
  · exact ⟨hs, rfl⟩
  · have hcfg : (w.advance s (fetchInstr s).op.len).st.cfg = s.cfg := by
      rw [Work.advance_cfg, execBody_cfg hbody, Work.start_st]
    have hw := (execBody_wf (.start hs) hbody).advance s (fetchInstr s).op.len
    exact ⟨commit_wf hw _ (hcfg ▸ fetchInstr_stmt_fits hs), hcfg⟩

/-! ## The cursors under a committed STEP -/

section
variable {t : Work} (hn : 1 ≤ t.st.cfg.n)
include hn

theorem Work.unOp_sp (f : Nat → Nat) : (t.unOp f).st.sp = addressOf t.st.cfg t.st.sp := by
  simp [Work.unOp, addressOf_addressOf_sub hn]

theorem Work.binOp_sp (f : Nat → Nat → Nat) : (t.binOp f).st.sp = addressOf t.st.cfg ((t.st.sp : Int) + 1) := by
  simp [Work.binOp, addressOf_addressOf_add hn, addressOf_addressOf_sub hn]

end

theorem Work.jumpIf_sp (t : Work) (test : Nat → Bool) (opnd : Nat) :
    (t.jumpIf test opnd).st.sp = addressOf t.st.cfg ((t.st.sp : Int) + 1) := by
  cases htest : test t.pop.1 with
  | true => rw [Work.jumpIf_of_true htest]; rfl
  | false => rw [Work.jumpIf_of_false htest]; rfl

/-- Every `Exec` phase moves `sp` up by the cells it reads and down by those it writes (30_encoding.md R66). -/
theorem execBody_sp {i : Instr} {s : State} {t t' : Work} (hsp : t.st.sp < t.st.cfg.n)
    (h : execBody i s t = .ok t') :
    t'.st.sp = addressOf t.st.cfg ((t.st.sp : Int) + ((i.op.reads : Int) - i.op.writes)) := by
  have hn : 1 ≤ t.st.cfg.n := by omega
  cases i with
  | halt _ | inert _ | jmp _ _ =>
    obtain rfl := Except.ok.inj h
    simp [Instr.op, Op.reads, Op.writes, addressOf_of_lt hsp]
  | jz _ _ | jnz _ _ => obtain rfl := Except.ok.inj h; exact Work.jumpIf_sp t _ _
  | call _ _ | push _ _ | ret _ | pop _ | out _ | dup _ => obtain rfl := Except.ok.inj h; rfl
  | swap _ | ld _ =>
    obtain rfl := Except.ok.inj h
    simp [Instr.op, Op.reads, Op.writes, addressOf_addressOf_add hn, addressOf_addressOf_sub hn]
  | st _ =>
    obtain rfl := Except.ok.inj h
    simp [Instr.op, Op.reads, Op.writes, addressOf_addressOf_add hn, Int.add_assoc]
  | inc _ | dec _ | not _ => obtain rfl := Except.ok.inj h; simp [Instr.op, Op.reads, Op.writes, Work.unOp_sp hn]
  | add _ | sub _ | and _ | or _ | xor _ | eq _ | lt _ | gt _ => obtain rfl := Except.ok.inj h; exact Work.binOp_sp hn _
  | in_ _ =>
    obtain ⟨x, rfl⟩ := execBody_in_ok h
    rfl

/-- A STEP with status OK is a commit: a fault and a hold drive another status (40_step_engine.md R88, R89). -/
theorem stepTransaction_ok {s t : State} {p : StepPort} (h : stepTransaction s = (some p, t)) (hok : p.status = .ok) :
    ∃ w, execBody (fetchInstr s) s (Work.start s) = .ok w
      ∧ stopsOnCollision s (w.advance s (fetchInstr s).op.len) (fetchInstr s).op = false
      ∧ t = commit (w.advance s (fetchInstr s).op.len) (fetchInstr s).op (fetchInstr s).stmt := by
  unfold stepTransaction at h
  split at h
  · next u hstep =>
    obtain ⟨hport, rfl⟩ := Prod.mk.inj h
    obtain ⟨-, hexec⟩ := step_next hstep
    rcases exec_next_cases hexec with ⟨-, -, rfl⟩ | hcommit
    · obtain rfl := Option.some.inj hport
      cases hok
    · exact hcommit
  · next f _ =>
    obtain ⟨hport, -⟩ := Prod.mk.inj h
    obtain rfl := Option.some.inj hport
    cases f <;> cases hok
  · cases h

/-- Where the detector lets a step pass under FAULT, the cursors differ: a redirected `pc` by `c4`, and a sequential one
because the new gap `G - k + u - v` is above 0 by `c3` and below `N` by `c2` (40_step_engine.md R86). -/
theorem pc_ne_sp_of_not_stopsOnCollision {i : Instr} {s : State} {w : Work} (hs : s.wf) (hpol : s.cfg.policy = .fault)
    (hbody : execBody i s (Work.start s) = .ok w)
    (hclear : stopsOnCollision s (w.advance s i.op.len) i.op = false) :
    (w.advance s i.op.len).st.pc ≠ (w.advance s i.op.len).st.sp := by
  obtain ⟨⟨hn, -⟩, -, -, hsp, -⟩ := hs
  cases hred : w.redirected with
  | true =>
    rw [Work.advance_of_redirected hred] at hclear ⊢
    exact ((stopsOnCollision_redirected hred _).mp hclear hpol).2.2
  | false =>
    rw [Work.advance_of_seq hred] at hclear ⊢
    obtain ⟨-, hc2, hc3⟩ := (stopsOnCollision_seq (by exact hred) _).mp hclear hpol
    simp only [State.setPc_pc, State.setPc_sp, execBody_cfg hbody, execBody_sp hsp hbody, Work.start_st]
    rw [← addressOf_pc_add_gap hn]
    exact addressOf_ne_of_lt hn (by omega) (by omega)

/-- Settles O47: a committed STEP is one the detector let pass. -/
theorem noCommittedStepMakesTheCursorsMeet : Obligations.NoCommittedStepMakesTheCursorsMeet := by
  intro s t p hs hpol hstep hok
  obtain ⟨w, hbody, hclear, rfl⟩ := stepTransaction_ok hstep hok
  exact pc_ne_sp_of_not_stopsOnCollision hs hpol hbody hclear

/-! ## Reset and the host's transactions -/

/-- A reset keeps the host's channels and takes any memory in canonical form (10_state.md R30, R32). -/
theorem resetWith_wf {m : Memory} {s : State} (h : s.wf) (hm : Memory.wf s.cfg m) : (resetWith m s).wf := by
  obtain ⟨hcfg, -, -, -, -, -, hin, hout⟩ := h
  obtain ⟨-, -, hpc, hsp, hhalted, hlast, -, -⟩ := State.init_wf hcfg
  exact ⟨hcfg, hm, hpc, hsp, hhalted, hlast, hin, hout⟩

theorem powerOn_wf {s : State} (h : s.wf) : (powerOn s).wf := resetWith_wf h (Memory.wf_nil s.cfg)

/-- LOAD leaves the state as it is where it refuses the program (70_reset_and_hazards.md R181, R183). -/
theorem load_wf {s : State} (h : s.wf) (p : List Nat) : (load p s).2.wf := by
  unfold load
  split
  · exact h
  · split
    · exact h
    · exact resetWith_wf h (programMemory_wf s.cfg p 0 (by omega)).1

/-- The host presents `word_of` of its data (44_io.md R140). -/
theorem supplyInput_wf {s : State} (h : s.wf) (ws : List Int) : (supplyInput ws s).wf := by
  obtain ⟨hcfg, hmem, hpc, hsp, hhalted, hlast, hin, hout⟩ := h
  refine ⟨hcfg, hmem, hpc, hsp, hhalted, hlast, fun x hx => ?_, hout⟩
  rcases List.mem_append.mp hx with hx | hx
  · exact hin x hx
  · obtain ⟨v, -, rfl⟩ := List.mem_map.mp hx
    exact wordOf_lt s.cfg v

/-- Settles O46, one transaction at a time. -/
theorem hostTransactionsKeepTheStateInvariants : Obligations.HostTransactionsKeepTheStateInvariants := fun _ hs =>
  ⟨powerOn_wf hs, load_wf hs, supplyInput_wf hs, rfl⟩

/-- The parameters of the reference core are legal (00_scope.md R4, R6). -/
theorem reference_valid : Config.reference.valid := by decide

/-- Settles O45: reset is power-on of a core with legal parameters, and is not halted. -/
theorem resetHasTheStateInvariants : Obligations.ResetHasTheStateInvariants :=
  ⟨State.init_wf reference_valid, fun hhalted => absurd hhalted Bool.false_ne_true⟩

/-- Settles O54: reset is the core just built, field by field. -/
theorem resetStateIsPowerOnOfTheReferenceCore : Obligations.ResetStateIsPowerOnOfTheReferenceCore :=
  ⟨(powerOn_init Config.reference).symm, rfl, rfl, rfl, rfl, rfl, fun _ => rfl, rfl⟩

end Sys2Proof.Machine

/-! Normalisation, memory and the stack primitives (20_memory.md), and what an ST leaves for the next fetch (R56). -/

namespace Sys2Proof.Machine

/-! ## Normalisation -/

/-- The value of `word_of` as an integer. -/
theorem wordOf_cast (c : Config) (x : Int) : (wordOf c x : Int) = x % ((2 ^ c.w : Nat) : Int) :=
  Int.toNat_of_nonneg (Int.emod_nonneg x (by exact_mod_cast (Nat.two_pow_pos c.w).ne'))

/-- Settles O6: a residue is in range, and a value in range is its own residue. -/
theorem normalisationIsModular : Obligations.NormalisationIsModular :=
  ⟨fun c x => ⟨wordOf_lt c x, wordOf_cast c x, wordOf_of_lt (wordOf_lt c x)⟩,
    fun _ x hn => ⟨addressOf_lt hn x, addressOf_cast hn x, addressOf_of_lt (addressOf_lt hn x)⟩⟩

/-! ## Reading a state after an update -/

@[simp] theorem State.read_setSp (s : State) (x a : Int) : (s.setSp x).read a = s.read a := rfl

@[simp] theorem State.read_setPc (s : State) (x a : Int) : (s.setPc x).read a = s.read a := rfl

@[simp] theorem commit_read (t : Work) (op : Op) (x : Stmt) (a : Int) : (commit t op x).read a = t.st.read a := rfl

/-- The advance moves `pc` alone, so no cell changes (40_step_engine.md R85). -/
@[simp] theorem Work.advance_read (t : Work) (s : State) (k : Nat) (a : Int) :
    (t.advance s k).st.read a = t.st.read a := by
  rw [Work.advance_frame]
  rfl

/-- A read wraps its address itself, so a wrapping before it is lost (20_memory.md R41, R42). -/
theorem State.read_addressOf_add {s : State} (h : 1 ≤ s.cfg.n) (x d : Int) :
    s.read ((addressOf s.cfg x : Int) + d) = s.read (x + d) := by
  rw [State.read, addressOf_addressOf_add h, State.read]

theorem State.read_addressOf {s : State} (h : 1 ≤ s.cfg.n) (x : Int) : s.read (addressOf s.cfg x) = s.read x := by
  simpa using State.read_addressOf_add h x 0

/-- The array of a state with the invariants is not empty (10_state.md R31). -/
theorem State.one_le_n {s : State} (h : s.wf) : 1 ≤ s.cfg.n := h.1.1

/-- Every address after MemWrite (20_memory.md R43). -/
theorem State.read_write {s : State} (h : s.wf) (a v b : Int) :
    (s.write a v).read b = s.readWith a (wordOf s.cfg v) b := by
  obtain ⟨-, ⟨hsorted, -⟩, -⟩ := h
  exact Memory.read_write hsorted _ _ _

theorem State.readWith_of_eq {s : State} {a b : Int} (h : addressOf s.cfg b = addressOf s.cfg a) (v : Nat) :
    s.readWith a v b = v := if_pos h

/-- Settles O7: the write is one of the memory array, which keeps its canonical form. -/
theorem memWriteSetsExactlyOneWord : Obligations.MemWriteSetsExactlyOneWord := fun _ a v h =>
  ⟨State.read_write h a v, rfl, State.write_wf h a v⟩

/-! ## The stack primitives -/

/-- Every address after Push (20_memory.md R53). -/
theorem State.read_push {s : State} (h : s.wf) (v a : Int) :
    (s.push v).read a = s.readWith s.sp (wordOf s.cfg v) a := State.read_write h s.sp v a

section
variable {s : State} (hn : 1 ≤ s.cfg.n)
include hn

/-- Pop gives the top word (20_memory.md R54, R55). -/
theorem State.pop_word_eq_top : s.pop.1 = s.top :=
  (State.pop_word s).trans (State.read_addressOf hn _)

theorem State.pop_pop : s.pop.2.pop.2 = s.setSp ((s.sp : Int) + 2) := by
  change s.setSp ((addressOf s.cfg ((s.sp : Int) + 1) : Int) + 1) = _
  rw [State.setSp, addressOf_addressOf_add hn, Int.add_assoc]
  rfl

/-- The second of two pops gives the second word (20_memory.md R54, R55). -/
theorem State.pop_pop_word_eq_second : s.pop.2.pop.1 = s.second := by
  rw [State.pop_word_eq_top (s := s.pop.2) hn]
  change s.read ((addressOf s.cfg ((s.sp : Int) + 1) : Int) + 1) = _
  rw [State.read_addressOf_add hn, Int.add_assoc]
  rfl

/-- The cell above the new `sp` is the one Push wrote (20_memory.md R53). -/
theorem State.addressOf_push_sp_add_one (v : Int) :
    addressOf s.cfg (((s.push v).sp : Int) + 1) = addressOf s.cfg s.sp := by
  rw [State.push_sp, addressOf_addressOf_add hn, Int.sub_add_cancel]

end

/-- A Pop right after a Push gives the pushed word back (20_memory.md R53, R54). -/
theorem State.push_pop_word {s : State} (h : s.wf) (v : Int) : (s.push v).pop.1 = wordOf s.cfg v := by
  rw [State.pop_word_eq_top (State.one_le_n (State.push_wf h v)), State.top, State.read_push h,
    State.readWith_of_eq (State.addressOf_push_sp_add_one (State.one_le_n h) v)]

/-- A Pop right after a Push restores `sp` (20_memory.md R53, R54). -/
theorem State.push_pop_sp {s : State} (h : s.wf) (v : Int) : (s.push v).pop.2.sp = s.sp := by
  obtain ⟨⟨hn, -⟩, -, -, hsp, -⟩ := h
  rw [State.pop_sp, State.push_cfg, State.addressOf_push_sp_add_one hn, addressOf_of_lt hsp]

/-- Settles O8, one primitive at a time. -/
theorem stackPrimitives : Obligations.StackPrimitives := fun s v h =>
  ⟨State.push_sp s v, State.read_push h v, State.pop_sp s, State.pop_word_eq_top (State.one_le_n h),
    State.pop_mem s, rfl, rfl, State.push_pop_word h v, State.push_pop_sp h v⟩

/-! ## The store into the instruction stream -/

/-- The `Exec` phase of ST: two pops and a MemWrite of the second word at the top one (42_stack_data.md R115). -/
theorem execBody_st {s : State} (hn : 1 ≤ s.cfg.n) (w0 : Nat) :
    execBody (.st w0) s (Work.start s)
      = .ok { Work.start s with st := (s.setSp ((s.sp : Int) + 2)).write s.top s.second } := by
  rw [← State.pop_pop hn, ← State.pop_word_eq_top hn, ← State.pop_pop_word_eq_second hn]
  rfl

/-- An ST that commits advances `pc` by one cell and sets the one cell the top word names to the second word
(40_step_engine.md R85, 42_stack_data.md R115). -/
theorem exec_st_next {s t : State} {w0 : Nat} (h : s.wf) (hexec : exec (.st w0) s = .next t) :
    t.cfg = s.cfg ∧ t.pc = addressOf s.cfg ((s.pc : Int) + 1) ∧ ∀ a, t.read a = s.readWith s.top s.second a := by
  rcases exec_next_cases hexec with ⟨hop, -, -⟩ | ⟨w, hbody, -, rfl⟩
  · cases hop
  · rw [execBody_st (State.one_le_n h)] at hbody
    obtain rfl := Except.ok.inj hbody
    refine ⟨rfl, rfl, fun a => ?_⟩
    rw [commit_read, Work.advance_read, State.read_write (State.setSp_wf h _), State.setSp_cfg,
      State.second, wordOf_of_lt (State.read_lt h _)]
    rfl

/-- Settles O22: the next fetch reads the memory the ST committed, at the cell the ST stored to. -/
theorem storeIntoTheNextInstructionIsFetched : Obligations.StoreIntoTheNextInstructionIsFetched := by
  intro s t w0 h htarget hexec
  obtain ⟨hcfg, hpc, hmem⟩ := exec_st_next h hexec
  have hpc_target : addressOf s.cfg t.pc = addressOf s.cfg s.top := by
    rw [hpc, addressOf_of_lt (addressOf_lt (State.one_le_n h) _)]
    exact htarget.symm
  have hword : t.read t.pc = s.second := (hmem t.pc).trans (State.readWith_of_eq hpc_target _)
  rw [fetchInstr_opcode, fetchInstr_op, hword, hcfg]
  exact ⟨rfl, rfl⟩

end Sys2Proof.Machine

/-! The encoding (30_encoding.md): the decoder and the encoder, the reference binding RB-1, the loader and the assembler. -/

namespace Sys2Proof

/-! ## The encoder and the decoder -/

theorem encode_of_payload_none {i : Instr} (h : i.payload = none) : encode i = [i.opcode] := by
  simp [encode, h]

theorem encode_of_payload_some {i : Instr} {opnd : Nat} (h : i.payload = some opnd) : encode i = [i.opcode, opnd] := by
  simp [encode, h]

/-- The words of the instruction of an operation: two in format F2, one in format F1 (30_encoding.md R60). -/
theorem encode_ofOp (op : Op) (w0 opnd : Nat) :
    encode (Instr.ofOp op w0 opnd) = if op.len = 2 then [w0, opnd] else [w0] := by
  have hp := Instr.ofOp_payload op w0 opnd
  by_cases hlen : op.len = 2
  · rw [if_pos hlen] at hp ⊢
    rw [encode_of_payload_some hp, Instr.ofOp_opcode]
  · rw [if_neg hlen] at hp ⊢
    rw [encode_of_payload_none hp, Instr.ofOp_opcode]

/-- An instruction is determined by its operation, its opcode word and its operand word. -/
theorem Instr.ofOp_op_opcode_payload (i : Instr) : Instr.ofOp i.op i.opcode (i.payload.getD 0) = i := by
  cases i <;> rfl

theorem Instr.len_ne_two_of_payload_none {i : Instr} (h : i.payload = none) : i.op.len ≠ 2 := by
  simp [← Instr.payload_isSome_iff, h]

theorem Instr.len_of_payload_some {i : Instr} {opnd : Nat} (h : i.payload = some opnd) : i.op.len = 2 := by
  simp [← Instr.payload_isSome_iff, h]

/-- An opcode word of format F2 is decoded with the word after it (30_encoding.md R60, R61). -/
theorem decode_of_len_two {c : Config} {w0 : Nat} (h : (c.decodeWord w0).len = 2) (opnd : Nat) (rest : List Nat) :
    decode c (w0 :: opnd :: rest) = .ok (Instr.ofOp (c.decodeWord w0) w0 opnd, rest) := by
  simp [decode, h]

/-- An opcode word of format F1 is decoded alone (30_encoding.md R60). -/
theorem decode_of_len_ne_two {c : Config} {w0 : Nat} (h : (c.decodeWord w0).len ≠ 2) (rest : List Nat) :
    decode c (w0 :: rest) = .ok (Instr.ofOp (c.decodeWord w0) w0 0, rest) := by
  simp [decode, h]

/-- Settles O1, by the format: the opcode word gives the length the encoding has, and so the operand back. -/
theorem decodeEncodeRoundTrip : Obligations.DecodeEncodeRoundTrip := by
  intro c i rest ⟨_, hbound, _⟩
  have hi := i.ofOp_op_opcode_payload
  cases hp : i.payload with
  | none =>
    have hlen : (c.decodeWord i.opcode).len ≠ 2 := hbound ▸ Instr.len_ne_two_of_payload_none hp
    rw [hp, Option.getD_none] at hi
    rw [encode_of_payload_none hp, List.singleton_append, decode_of_len_ne_two hlen, hbound, hi]
  | some opnd =>
    have hlen : (c.decodeWord i.opcode).len = 2 := hbound ▸ Instr.len_of_payload_some hp
    rw [hp, Option.getD_some] at hi
    rw [encode_of_payload_some hp, List.cons_append, List.singleton_append, decode_of_len_two hlen, hbound, hi]

/-- The two ways the decoder succeeds, one for each format (30_encoding.md R60). -/
theorem decode_ok_cases {c : Config} {ws rest : List Nat} {i : Instr} (h : decode c ws = .ok (i, rest)) :
    (∃ w0 opnd, (c.decodeWord w0).len = 2 ∧ i = Instr.ofOp (c.decodeWord w0) w0 opnd ∧ ws = w0 :: opnd :: rest)
      ∨ ∃ w0, (c.decodeWord w0).len ≠ 2 ∧ i = Instr.ofOp (c.decodeWord w0) w0 0 ∧ ws = w0 :: rest := by
  cases ws with
  | nil => cases h
  | cons w0 ws =>
    by_cases hlen : (c.decodeWord w0).len = 2
    · cases ws with
      | nil => simp [decode, hlen] at h
      | cons opnd ws =>
        rw [decode_of_len_two hlen] at h
        obtain ⟨rfl, rfl⟩ := Prod.mk.inj (Except.ok.inj h)
        exact .inl ⟨w0, opnd, hlen, rfl, rfl⟩
    · rw [decode_of_len_ne_two hlen] at h
      obtain ⟨rfl, rfl⟩ := Prod.mk.inj (Except.ok.inj h)
      exact .inr ⟨w0, hlen, rfl, rfl⟩

/-- The instruction that `OPMAP` gives a `W`-bit word, with a `W`-bit operand, is well formed (30_encoding.md R62). -/
theorem Instr.ofOp_wf {c : Config} {w0 opnd : Nat} (hw0 : w0 < 2 ^ c.w) (hopnd : opnd < 2 ^ c.w) :
    (Instr.ofOp (c.decodeWord w0) w0 opnd).wf c := by
  refine ⟨by rwa [Instr.ofOp_opcode], by rw [Instr.ofOp_opcode, Instr.ofOp_op], fun x hx => ?_⟩
  rw [Instr.ofOp_payload] at hx
  split at hx
  · exact Option.mem_some.mp hx ▸ hopnd
  · cases hx

/-- Settles O2, by the format of the words read. -/
theorem decodedWordsAreTheEncoding : Obligations.DecodedWordsAreTheEncoding := by
  intro c ws i rest hfit hdecode
  rcases decode_ok_cases hdecode with ⟨w0, opnd, hlen, rfl, rfl⟩ | ⟨w0, hlen, rfl, rfl⟩
  · exact ⟨Instr.ofOp_wf (hfit w0 (by simp)) (hfit opnd (by simp)), by simp [encode_ofOp, hlen]⟩
  · exact ⟨Instr.ofOp_wf (hfit w0 (by simp)) (Nat.two_pow_pos c.w), by simp [encode_ofOp, hlen]⟩

/-- The operations of format F2 (30_encoding.md R65). -/
theorem Op.len_eq_two_iff (op : Op) :
    op.len = 2 ↔ op = .jmp ∨ op = .jz ∨ op = .jnz ∨ op = .call ∨ op = .push := by
  cases op <;> simp [Op.len]

/-- Settles O3: the first word alone decides the format. -/
theorem decodingIsTotalAndLengthComesFromTheOpcode : Obligations.DecodingIsTotalAndLengthComesFromTheOpcode := by
  intro c w0 x rest
  simp only [← Op.len_eq_two_iff]
  by_cases hlen : (c.decodeWord w0).len = 2
  · exact ⟨_, Instr.ofOp_op _ w0 x, Instr.ofOp_opcode _ w0 x, by rw [decode_of_len_two hlen, if_pos hlen]⟩
  · exact ⟨_, Instr.ofOp_op _ w0 0, Instr.ofOp_opcode _ w0 0, by rw [decode_of_len_ne_two hlen, if_neg hlen]⟩

/-- Settles O5, by evaluating the decoder of the reference core on each word. -/
theorem sampleWordsDecode : Obligations.SampleWordsDecode :=
  ⟨rfl, rfl, rfl, rfl, rfl, rfl, rfl, rfl, rfl⟩

/-! ## The reference binding RB-1 -/

/-- What a binding gives a word value: `INERT`, or an operation it lists for it (30_encoding.md R63). -/
theorem OpMap.lookup_inert_or_mem (m : OpMap) (x : Nat) : m.lookup x = .inert ∨ (x, m.lookup x) ∈ m := by
  induction m with
  | nil => exact .inl rfl
  | cons row m ih =>
    rw [OpMap.lookup_cons]
    split
    · next hx => exact .inr (by simp [hx])
    · exact ih.imp_right (List.mem_cons_of_mem row)

theorem OpMap.lookup_of_forall_ne {m : OpMap} {x : Nat} (h : ∀ row ∈ m, row.1 ≠ x) : m.lookup x = .inert :=
  (OpMap.lookup_inert_or_mem m x).resolve_right fun hmem => h _ hmem rfl

/-- Every row of RB-1 is the first one with its code, and none binds `INERT`. -/
theorem rb1_lookup_of_mem : ∀ row ∈ rb1, rb1.lookup row.1 = row.2 ∧ row.2 ≠ .inert := by decide

theorem rb1_code_range : ∀ row ∈ rb1, 2 ^ 5 ≤ row.1 ∧ row.1 < 2 ^ 7 := by decide

theorem rb1_binds {op : Op} (h : op ≠ .inert) : ∃ row ∈ rb1, row.2 = op := by
  cases op with
  | inert => exact absurd rfl h
  | _ => decide

/-- Seven bits hold every code of RB-1 (30_encoding.md R67). -/
theorem rb1_reaches_of_seven_le {w : Nat} (hw : 7 ≤ w) (op : Op) : ∃ x < 2 ^ w, rb1.lookup x = op := by
  by_cases hop : op = .inert
  · exact ⟨0, Nat.two_pow_pos w, by rw [hop]; rfl⟩
  · obtain ⟨row, hmem, rfl⟩ := rb1_binds hop
    obtain ⟨hlookup, -⟩ := rb1_lookup_of_mem row hmem
    obtain ⟨-, hlt⟩ := rb1_code_range row hmem
    exact ⟨row.1, hlt.trans_le (Nat.pow_le_pow_right Nat.two_pos hw), hlookup⟩

/-- Six bits hold the codes of six operations (30_encoding.md R67). -/
theorem rb1_reaches_six_iff (op : Op) :
    (∃ x < 2 ^ 6, rb1.lookup x = op) ↔ op ∈ [Op.add, .sub, .and, .eq, .lt, .gt, .inert] := by
  have hrows : ∀ row ∈ rb1, row.1 < 2 ^ 6 → row.2 ∈ [Op.add, .sub, .and, .eq, .lt, .gt, .inert] := by decide
  have hops : ∀ op ∈ [Op.add, .sub, .and, .eq, .lt, .gt, .inert], op = .inert ∨ ∃ row ∈ rb1, row.1 < 2 ^ 6 ∧ row.2 = op := by
    decide
  constructor
  · rintro ⟨x, hx, rfl⟩
    rcases rb1.lookup_inert_or_mem x with hinert | hmem
    · simp [hinert]
    · exact hrows _ hmem hx
  · intro hop
    rcases hops op hop with rfl | ⟨row, hmem, hlt, rfl⟩
    · exact ⟨0, by decide, rfl⟩
    · exact ⟨row.1, hlt, (rb1_lookup_of_mem row hmem).1⟩

/-- Five bits hold no code of RB-1 (30_encoding.md R67). -/
theorem rb1_lookup_of_lt {w x : Nat} (hw : w ≤ 5) (hx : x < 2 ^ w) : rb1.lookup x = .inert := by
  refine OpMap.lookup_of_forall_ne fun row hmem heq => ?_
  obtain ⟨hle, -⟩ := rb1_code_range row hmem
  have hpow : 2 ^ w ≤ 2 ^ 5 := Nat.pow_le_pow_right Nat.two_pos hw
  omega

/-- Settles O4: the rows of RB-1 are checked one by one, and the widths are compared with the range of their codes. -/
theorem referenceBindingAndItsReach : Obligations.ReferenceBindingAndItsReach :=
  ⟨by decide, rb1_lookup_of_mem, rfl, by decide, fun _ => OpMap.lookup_of_forall_ne,
    fun _ hw op => rb1_reaches_of_seven_le hw op, rb1_reaches_six_iff, fun _ hw _ hx => rb1_lookup_of_lt hw hx⟩

end Sys2Proof

namespace Sys2Proof.Machine

/-! ## The Statement of a committed STEP -/

/-- A STEP with status OK answers a next state, which holds the outputs driven (40_step_engine.md R89). -/
theorem stepTransaction_ok_port {s t : State} {p : StepPort} (h : stepTransaction s = (some p, t))
    (hok : p.status = .ok) : t.port = some p := by
  unfold stepTransaction at h
  split at h
  · obtain ⟨hport, rfl⟩ := Prod.mk.inj h
    exact hport
  · next f _ =>
    obtain ⟨hport, -⟩ := Prod.mk.inj h
    obtain rfl := Option.some.inj hport
    cases f <;> cases hok
  · cases h

/-- The Statement of the instruction a STEP fetches (30_encoding.md R69). -/
theorem fetchInstr_stmt (s : State) : (fetchInstr s).stmt = ⟨s.read s.pc,
    if (s.cfg.decodeWord (s.read s.pc)).len = 2 then some (s.read ((s.pc : Int) + 1)) else none⟩ := by
  rw [Instr.stmt, fetchInstr_opcode, fetchInstr_payload]

/-- Settles O35: the commit records and drives the Statement of the fetched instruction. -/
theorem committedStatementIsTheFetchedWords : Obligations.CommittedStatementIsTheFetchedWords := by
  intro s t p hstep hok
  have hport := stepTransaction_ok_port hstep hok
  obtain ⟨w, -, -, rfl⟩ := stepTransaction_ok hstep hok
  obtain rfl := Option.some.inj hport
  refine ⟨rfl, by rw [commit_lastStatement, fetchInstr_stmt], ?_⟩
  rw [commitPort, fetchInstr_stmt]
  by_cases hlen : (s.cfg.decodeWord (s.read s.pc)).len = 2 <;> simp [hlen]

/-! ## No refusal -/

theorem raise_ne_refused (e : StepError) (s : State) (r : Refusal) : raise e s ≠ .refused r := by
  cases e <;> simp [raise]

theorem finish_ne_refused (s : State) (op : Op) (x : Stmt) (t : Work) (r : Refusal) : finish s op x t ≠ .refused r := by
  cases hs : stopsOnCollision s (t.advance s op.len) op with
  | true => rw [finish_of_stops hs]; nofun
  | false => rw [finish_of_clear hs]; nofun

/-- Every instruction has a meaning, and every meaning ends in an error or in `finish`. -/
theorem exec_ne_refused (i : Instr) (s : State) (r : Refusal) : exec i s ≠ .refused r := by
  rw [exec_eq_runOp]
  cases hb : execBody i s (Work.start s) with
  | error e => rw [runOp_of_error hb]; exact raise_ne_refused e s r
  | ok w => rw [runOp_of_ok hb]; exact finish_ne_refused s _ _ w r

/-- Settles O43: a STEP is the halt gate's error or the meaning of the fetched instruction. -/
theorem noStepIsRefused : Obligations.NoStepIsRefused := by
  intro s r
  cases hh : s.halted with
  | true => simpa [step, haltGate, hh] using raise_ne_refused .alreadyHalted s r
  | false => rw [step_of_running hh]; exact exec_ne_refused _ s r

/-! ## The loader and the assembler -/

theorem stripTerminator_of_keep {strip : Bool} {terminator : Byte} {bytes : List Byte}
    (h : strip = false ∨ bytes.getLast? ≠ some terminator) : stripTerminator strip terminator bytes = bytes := by
  rcases h with h | h <;> simp [stripTerminator, h]

theorem stripTerminator_append (terminator : Byte) (bytes : List Byte) :
    stripTerminator true terminator (bytes ++ [terminator]) = bytes := by
  simp [stripTerminator]

/-- A text of which no byte is left is refused (30_encoding.md R70). -/
theorem loadProgramText_of_empty (c : Config) {strip : Bool} {terminator : Byte} {bytes : List Byte}
    (h : stripTerminator strip terminator bytes = []) :
    loadProgramText c strip terminator (some bytes) = .error .emptyProgram := by
  simp [loadProgramText, h]

/-- Every byte that is left becomes its word (30_encoding.md R70). -/
theorem loadProgramText_of_ne_nil (c : Config) {strip : Bool} {terminator : Byte} {bytes left : List Byte}
    (h : stripTerminator strip terminator bytes = left) (hne : left ≠ []) :
    loadProgramText c strip terminator (some bytes) = .ok (left.map fun b => b.toNat % 2 ^ c.w) := by
  simp [loadProgramText, h, hne, wordOf_natCast]

/-- Settles O59, by what the stripping leaves. -/
theorem loaderContract : Obligations.LoaderContract := by
  intro c strip terminator
  refine ⟨rfl, fun bytes hne hkeep => ?_, fun bytes hne hstrip => ?_, ?_, ?_⟩
  · exact loadProgramText_of_ne_nil c (stripTerminator_of_keep hkeep) hne
  · subst hstrip
    exact loadProgramText_of_ne_nil c (stripTerminator_append terminator bytes) hne
  · exact loadProgramText_of_empty c (stripTerminator_of_keep (.inr (by simp)))
  · exact loadProgramText_of_empty c (stripTerminator_append terminator [])

/-- Settles O60, by running the assembler on each text. -/
theorem assemblerExamples : Obligations.AssemblerExamples :=
  ⟨rfl, rfl, rfl, rfl⟩

end Sys2Proof.Machine

/-! The footprint of an instruction (30_encoding.md R66): the cells its `Exec` phase writes and the cells it reads. -/

namespace Sys2Proof.Machine

/-! ## Stack cells -/

/-- The stack cell `d` cells above `sp`: cell 0 is the free one, cell 1 that of the top word (20_memory.md R53, R55). -/
def State.cell (s : State) (d : Int) : Nat := addressOf s.cfg ((s.sp : Int) + d)

theorem State.cell_zero (s : State) : s.cell 0 = addressOf s.cfg s.sp := by rw [State.cell, Int.add_zero]

section
variable {s : State} (hn : 1 ≤ s.cfg.n)
include hn

/-- Pop moves `sp` one cell up (20_memory.md R54). -/
theorem State.pop_cell (d : Int) : s.pop.2.cell d = s.cell (1 + d) := by
  change addressOf s.cfg ((addressOf s.cfg ((s.sp : Int) + 1) : Int) + d) = _
  rw [addressOf_addressOf_add hn, Int.add_assoc, State.cell]

theorem State.pop_pop_cell (d : Int) : s.pop.2.pop.2.cell d = s.cell (2 + d) := by
  rw [State.pop_cell (s := s.pop.2) hn, State.pop_cell hn, ← Int.add_assoc]
  rfl

/-- Push moves `sp` one cell down (20_memory.md R53). -/
theorem State.push_cell (v d : Int) : (s.push v).cell d = s.cell (-1 + d) := by
  change addressOf s.cfg ((addressOf s.cfg ((s.sp : Int) - 1) : Int) + d) = _
  rw [addressOf_addressOf_add hn, Int.sub_eq_add_neg, Int.add_assoc, State.cell]

end

/-! ## The cells of an instruction -/

/-- The cells an instruction may read: its `u` stack cells, and the one the top word names for LD (30_encoding.md R66). -/
def readCells (i : Instr) (s : State) : Set Nat :=
  {x | (∃ j < i.op.reads, x = s.cell (1 + (j : Int))) ∨ (i.op = .ld ∧ x = addressOf s.cfg s.top)}

/-- The cells an instruction may write: its `v` stack cells, and the one the top word names for ST
(30_encoding.md R66). -/
def writtenCells (i : Instr) (s : State) : Set Nat :=
  {x | (∃ j < i.op.writes, x = s.cell ((i.op.reads : Int) - i.op.writes + 1 + (j : Int)))
    ∨ (i.op = .st ∧ x = addressOf s.cfg s.top)}

section
variable {i : Instr}

/-- The read cells by their addresses. -/
theorem mem_readCells_iff {s : State} {x : Nat} : x ∈ readCells i s ↔
    (∃ j < i.op.reads, x = addressOf s.cfg ((s.sp : Int) + 1 + j))
      ∨ (i.op = .ld ∧ x = addressOf s.cfg (s.read ((s.sp : Int) + 1))) := by
  simp [readCells, State.cell, State.top, Int.add_assoc]

/-- The written cells by their addresses. -/
theorem mem_writtenCells_iff {s : State} {x : Nat} : x ∈ writtenCells i s ↔
    (∃ j < i.op.writes, x = addressOf s.cfg ((s.sp : Int) + i.op.reads - i.op.writes + 1 + j))
      ∨ (i.op = .st ∧ x = addressOf s.cfg (s.read ((s.sp : Int) + 1))) := by
  simp [writtenCells, State.cell, State.top, Int.add_assoc, Int.sub_eq_add_neg]

theorem cell_one_mem_readCells (s : State) (h : 1 ≤ i.op.reads) : s.cell 1 ∈ readCells i s := .inl ⟨0, h, rfl⟩

theorem cell_two_mem_readCells (s : State) (h : 2 ≤ i.op.reads) : s.cell 2 ∈ readCells i s := .inl ⟨1, h, rfl⟩

theorem writtenCells_of_writes_zero (s : State) (hw : i.op.writes = 0) (hst : i.op ≠ .st) :
    writtenCells i s = ∅ := by
  simp [writtenCells, hw, hst]

theorem writtenCells_of_writes_one (s : State) (hw : i.op.writes = 1) :
    writtenCells i s = {s.cell i.op.reads} := by
  have hst : i.op ≠ .st := fun h => by simp [h, Op.writes] at hw
  simp [writtenCells, hw, hst]

theorem writtenCells_of_writes_two (s : State) (hw : i.op.writes = 2) :
    writtenCells i s = {s.cell ((i.op.reads : Int) - 1), s.cell i.op.reads} := by
  have hst : i.op ≠ .st := fun h => by simp [h, Op.writes] at hw
  have hlow : (i.op.reads : Int) - 2 + 1 = i.op.reads - 1 := by omega
  have hhigh : (i.op.reads : Int) - 1 + 1 = i.op.reads := by omega
  ext x
  simp [writtenCells, hw, hst, hlow, hhigh, Nat.le_one_iff_eq_zero_or_eq_one, or_and_right, exists_or]

theorem writtenCells_st (w0 : Nat) (s : State) : writtenCells (.st w0) s = {addressOf s.cfg s.top} := by
  simp [writtenCells, Instr.op, Op.writes]

end

/-! ## What is written -/

/-- Push leaves every cell but the free one (20_memory.md R53). -/
theorem State.read_push_of_ne {s : State} {a : Int} (h : addressOf s.cfg a ≠ s.cell 0) (v : Int) :
    (s.push v).read a = s.read a :=
  Memory.read_write_of_ne s.mem (s.cell_zero ▸ h) _

theorem State.read_push_push_of_ne {s : State} (hn : 1 ≤ s.cfg.n) {a : Int} (hfirst : addressOf s.cfg a ≠ s.cell 0)
    (hsecond : addressOf s.cfg a ≠ s.cell (-1)) (v w : Int) : ((s.push v).push w).read a = s.read a := by
  rw [State.read_push_of_ne (s := s.push v) (by rwa [State.push_cell hn]), State.read_push_of_ne hfirst]

theorem Work.jumpIf_read (t : Work) (test : Nat → Bool) (opnd : Nat) (a : Int) :
    (t.jumpIf test opnd).st.read a = t.st.read a := by
  cases htest : test t.pop.1 with
  | true => rw [Work.jumpIf_of_true htest]; rfl
  | false => rw [Work.jumpIf_of_false htest]; rfl

section
variable {t : Work} (hn : 1 ≤ t.st.cfg.n) {a : Int}
include hn

theorem Work.unOp_read_of_ne (h : addressOf t.st.cfg a ≠ t.st.cell 1) (f : Nat → Nat) :
    (t.unOp f).st.read a = t.st.read a :=
  State.read_push_of_ne (s := t.st.pop.2) (by rwa [State.pop_cell hn]) _

theorem Work.binOp_read_of_ne (h : addressOf t.st.cfg a ≠ t.st.cell 2) (f : Nat → Nat → Nat) :
    (t.binOp f).st.read a = t.st.read a :=
  State.read_push_of_ne (s := t.st.pop.2.pop.2) (by rwa [State.pop_pop_cell hn]) _

end

@[simp] theorem Work.advance_sp (t : Work) (s : State) (k : Nat) : (t.advance s k).st.sp = t.st.sp := by
  rw [Work.advance_frame]

/-- The `Exec` phase leaves every cell that is not one of the instruction's written cells. -/
theorem execBody_read_of_not_mem {i : Instr} {s : State} {t w : Work} (hn : 1 ≤ t.st.cfg.n) {a : Int}
    (h : execBody i s t = .ok w) (ha : addressOf t.st.cfg a ∉ writtenCells i t.st) :
    w.st.read a = t.st.read a := by
  cases i with
  | halt _ | inert _ | jmp _ _ | ret _ | pop _ | out _ => obtain rfl := Except.ok.inj h; rfl
  | jz _ _ | jnz _ _ => obtain rfl := Except.ok.inj h; exact Work.jumpIf_read t _ _ a
  | call _ _ | push _ _ =>
    obtain rfl := Except.ok.inj h
    rw [writtenCells_of_writes_one _ rfl] at ha
    exact State.read_push_of_ne ha _
  | in_ _ =>
    obtain ⟨x, rfl⟩ := execBody_in_ok h
    rw [writtenCells_of_writes_one _ rfl] at ha
    exact State.read_push_of_ne ha _
  | dup _ =>
    obtain rfl := Except.ok.inj h
    rw [writtenCells_of_writes_two _ rfl] at ha
    exact State.read_push_of_ne (fun heq => ha (.inl heq)) _
  | swap _ =>
    obtain rfl := Except.ok.inj h
    rw [writtenCells_of_writes_two _ rfl] at ha
    refine State.read_push_push_of_ne (s := t.st.pop.2.pop.2) hn ?_ ?_ _ _
    · rw [State.pop_pop_cell hn]
      exact fun heq => ha (.inr heq)
    · rw [State.pop_pop_cell hn]
      exact fun heq => ha (.inl heq)
  | ld _ =>
    obtain rfl := Except.ok.inj h
    rw [writtenCells_of_writes_one _ rfl] at ha
    exact State.read_push_of_ne (s := t.st.pop.2) (by rwa [State.pop_cell hn]) _
  | st _ =>
    obtain rfl := Except.ok.inj h
    rw [writtenCells_st, State.top, ← State.read_addressOf hn] at ha
    exact Memory.read_write_of_ne _ ha _
  | inc _ | dec _ | not _ =>
    obtain rfl := Except.ok.inj h
    rw [writtenCells_of_writes_one _ rfl] at ha
    exact Work.unOp_read_of_ne hn ha _
  | add _ | sub _ | and _ | or _ | xor _ | eq _ | lt _ | gt _ =>
    obtain rfl := Except.ok.inj h
    rw [writtenCells_of_writes_one _ rfl] at ha
    exact Work.binOp_read_of_ne hn ha _

/-- Settles O38: `sp` and the memory are those the `Exec` phase leaves, since the advance and the commit move neither. -/
theorem stackEffectIsAsTheTableSays : Obligations.StackEffectIsAsTheTableSays := by
  intro s t i hs hexec hin
  rcases exec_next_cases hexec with ⟨hop, hempty, -⟩ | ⟨w, hbody, -, rfl⟩
  · exact absurd hempty (hin hop)
  obtain ⟨⟨hn, -⟩, -, -, hsp, -⟩ := hs
  refine ⟨?_, fun a hcells htarget => ?_⟩
  · rw [commit_sp, Work.advance_sp, execBody_sp hsp hbody, Work.start_st, Int.add_sub_assoc]
  · rw [commit_read, Work.advance_read]
    refine execBody_read_of_not_mem hn hbody fun hmem => ?_
    rcases mem_writtenCells_iff.mp hmem with ⟨j, hj, heq⟩ | ⟨hst, heq⟩
    · exact hcells j hj heq
    · exact htarget hst heq

/-! ## What is read -/

/-- Two working copies with the invariants that differ in memory only, and agree on the cells `A`. -/
structure Work.AgreeOn (A : Set Nat) (t t' : Work) : Prop where
  eq_but_mem : t' = { t with st := { t.st with mem := t'.st.mem } }
  wf : t.st.wf
  wf' : t'.st.wf
  read_eq : ∀ a, addressOf t.st.cfg a ∈ A → t'.st.read a = t.st.read a

namespace Work.AgreeOn

variable {A : Set Nat} {t t' : Work}

theorem mono (h : AgreeOn A t t') {B : Set Nat} (hB : B ⊆ A) : AgreeOn B t t' :=
  ⟨h.eq_but_mem, h.wf, h.wf', fun a ha => h.read_eq a (hB ha)⟩

theorem setSp (h : AgreeOn A t t') (a : Int) :
    AgreeOn A { t with st := t.st.setSp a } { t' with st := t'.st.setSp a } :=
  ⟨by rw [h.eq_but_mem]; rfl, State.setSp_wf h.wf a, State.setSp_wf h.wf' a, h.read_eq⟩

theorem redirect (h : AgreeOn A t t') {a a' : Nat} (ha : a' = a) : AgreeOn A (t.redirect a) (t'.redirect a') := by
  subst ha
  exact ⟨by rw [h.eq_but_mem]; rfl, State.setPc_wf h.wf _, State.setPc_wf h.wf' _, h.read_eq⟩

theorem emit (h : AgreeOn A t t') {v v' : Nat} (hv : v' = v) : AgreeOn A (t.emit v) (t'.emit v') := by
  subst hv
  exact ⟨by rw [h.eq_but_mem]; rfl, h.wf, h.wf', h.read_eq⟩

theorem takeInput (h : AgreeOn A t t') : AgreeOn A { t with inTake := true } { t' with inTake := true } :=
  ⟨by rw [h.eq_but_mem], h.wf, h.wf', h.read_eq⟩

theorem advance (h : AgreeOn A t t') (s : State) (k : Nat) : AgreeOn A (t.advance s k) (t'.advance s k) := by
  have hred : t'.redirected = t.redirected := by rw [h.eq_but_mem]
  cases ht : t.redirected with
  | true => rwa [Work.advance_of_redirected ht, Work.advance_of_redirected (hred.trans ht)]
  | false =>
    rw [Work.advance_of_seq ht, Work.advance_of_seq (hred.trans ht)]
    exact ⟨by rw [h.eq_but_mem]; rfl, State.setPc_wf h.wf _, State.setPc_wf h.wf' _, h.read_eq⟩

theorem cfg_eq (h : AgreeOn A t t') : t'.st.cfg = t.st.cfg := by rw [h.eq_but_mem]

theorem sp_eq (h : AgreeOn A t t') : t'.st.sp = t.st.sp := by rw [h.eq_but_mem]

/-- A MemWrite of one word at one address adds the written cell to those agreed on (20_memory.md R43). -/
theorem write (h : AgreeOn A t t') {a a' v v' : Nat} (ha : a' = a) (hv : v' = v) :
    AgreeOn (insert (addressOf t.st.cfg a) A) (t.write a v) (t'.write a' v') := by
  subst ha hv
  refine ⟨by rw [h.eq_but_mem]; rfl, State.write_wf h.wf _ _, State.write_wf h.wf' _ _, fun b hb => ?_⟩
  rw [Work.write_st, Work.write_st, State.read_write h.wf, State.read_write h.wf', State.readWith, State.readWith,
    h.cfg_eq]
  split
  · rfl
  · next hne => exact h.read_eq b (hb.resolve_left hne)

theorem pop (h : AgreeOn A t t') : AgreeOn A t.pop.2 t'.pop.2 := by
  have heq : t'.pop.2 = { t' with st := t'.st.setSp ((t.st.sp : Int) + 1) } := by
    rw [← h.sp_eq]
    rfl
  rw [heq]
  exact h.setSp _

/-- Push adds the free cell to those agreed on (20_memory.md R53). -/
theorem push (h : AgreeOn A t t') {v v' : Nat} (hv : v' = v) :
    AgreeOn (insert (t.st.cell 0) A) (t.push v) (t'.push v') := by
  have hpush := (h.write h.sp_eq hv).setSp ((t.st.sp : Int) - 1)
  rw [← State.cell_zero] at hpush
  have heq : t'.push v' = { t'.write t'.st.sp v' with st := (t'.write t'.st.sp v').st.setSp ((t.st.sp : Int) - 1) } := by
    rw [← h.sp_eq]
    rfl
  rwa [heq]

theorem top_eq (h : AgreeOn A t t') (hA : t.st.cell 1 ∈ A) : t'.st.top = t.st.top := by
  rw [State.top, h.sp_eq]
  exact h.read_eq _ hA

theorem pop_word_eq (h : AgreeOn A t t') (hA : t.st.cell 1 ∈ A) : t'.pop.1 = t.pop.1 := by
  rw [Work.pop_word, Work.pop_word, State.pop_word_eq_top (State.one_le_n h.wf),
    State.pop_word_eq_top (State.one_le_n h.wf'), h.top_eq hA]

theorem pop_pop_word_eq (h : AgreeOn A t t') (hA : t.st.cell 2 ∈ A) : t'.pop.2.pop.1 = t.pop.2.pop.1 := by
  refine h.pop.pop_word_eq ?_
  rw [Work.pop_st, State.pop_cell (State.one_le_n h.wf)]
  exact hA

/-- Push onto the cell of a popped word. -/
theorem pop_push (h : AgreeOn A t t') (hA : t.st.cell 1 ∈ A) {v v' : Nat} (hv : v' = v) :
    AgreeOn A (t.pop.2.push v) (t'.pop.2.push v') := by
  have hpush := h.pop.push hv
  rwa [Work.pop_st, State.pop_cell (State.one_le_n h.wf), Set.insert_eq_of_mem (by exact hA)] at hpush

/-- Push onto the cell of the second of two popped words. -/
theorem pop_pop_push (h : AgreeOn A t t') (hA : t.st.cell 2 ∈ A) {v v' : Nat} (hv : v' = v) :
    AgreeOn A (t.pop.2.pop.2.push v) (t'.pop.2.pop.2.push v') := by
  refine h.pop.pop_push ?_ hv
  rw [Work.pop_st, State.pop_cell (State.one_le_n h.wf)]
  exact hA

theorem unOp (h : AgreeOn A t t') (hA : t.st.cell 1 ∈ A) (f : Nat → Nat) : AgreeOn A (t.unOp f) (t'.unOp f) :=
  h.pop_push hA (congrArg f (h.pop_word_eq hA))

theorem binOp (h : AgreeOn A t t') (htop : t.st.cell 1 ∈ A) (hsecond : t.st.cell 2 ∈ A) (f : Nat → Nat → Nat) :
    AgreeOn A (t.binOp f) (t'.binOp f) :=
  h.pop_pop_push hsecond (congrArg₂ f (h.pop_pop_word_eq hsecond) (h.pop_word_eq htop))

/-- The test of a jump gives the same answer. -/
theorem jumpIf (h : AgreeOn A t t') (hA : t.st.cell 1 ∈ A) (test : Nat → Bool) (opnd : Nat) :
    AgreeOn A (t.jumpIf test opnd) (t'.jumpIf test opnd) := by
  have hword := h.pop_word_eq hA
  cases htest : test t.pop.1 with
  | true => rw [Work.jumpIf_of_true htest, Work.jumpIf_of_true (hword ▸ htest)]; exact h.pop.redirect rfl
  | false => rw [Work.jumpIf_of_false htest, Work.jumpIf_of_false (hword ▸ htest)]; exact h.pop

/-- Where an instruction writes no cell there is none to agree on. -/
theorem of_writes_zero (h : AgreeOn A t t') {i : Instr} {s : State} (hw : i.op.writes = 0) (hst : i.op ≠ .st) :
    AgreeOn (writtenCells i s) t t' :=
  h.mono (by rw [writtenCells_of_writes_zero s hw hst]; exact Set.empty_subset A)

theorem of_writes_one (h : AgreeOn A t t') {i : Instr} {s : State} (hw : i.op.writes = 1) (hA : s.cell i.op.reads ∈ A) :
    AgreeOn (writtenCells i s) t t' :=
  h.mono (by rw [writtenCells_of_writes_one s hw]; exact Set.singleton_subset_iff.mpr hA)

theorem of_writes_two (h : AgreeOn A t t') {i : Instr} {s : State} (hw : i.op.writes = 2)
    (hlow : s.cell ((i.op.reads : Int) - 1) ∈ A) (hhigh : s.cell i.op.reads ∈ A) : AgreeOn (writtenCells i s) t t' :=
  h.mono (by rw [writtenCells_of_writes_two s hw]; exact Set.pair_subset hlow hhigh)

end Work.AgreeOn

theorem execBody_in_of_cons {t : Work} {x : Nat} {xs : List Nat} (h : t.st.input = x :: xs) (w0 : Nat) (s : State) :
    execBody (.in_ w0) s t = .ok (Work.push { t with inTake := true } x) := by
  simp [execBody, Work.takeInput, h]

/-- The `Exec` phases of two working copies that agree on the cells the instruction reads agree on the cells it writes. -/
theorem execBody_agreeOn {i : Instr} {s : State} {t t' w : Work} (h : Work.AgreeOn (readCells i t.st) t t')
    (hw : execBody i s t = .ok w) : ∃ w', execBody i s t' = .ok w' ∧ Work.AgreeOn (writtenCells i t.st) w w' := by
  have hn := State.one_le_n h.wf
  have htop : 1 ≤ i.op.reads → t.st.cell 1 ∈ readCells i t.st := cell_one_mem_readCells t.st
  have hsecond : 2 ≤ i.op.reads → t.st.cell 2 ∈ readCells i t.st := cell_two_mem_readCells t.st
  cases i with
  | halt _ | inert _ =>
    obtain rfl := Except.ok.inj hw
    exact ⟨_, rfl, h.of_writes_zero rfl (fun hst => nomatch hst)⟩
  | jmp _ opnd =>
    obtain rfl := Except.ok.inj hw
    exact ⟨_, rfl, (h.redirect rfl).of_writes_zero rfl (fun hst => nomatch hst)⟩
  | jz _ opnd | jnz _ opnd =>
    obtain rfl := Except.ok.inj hw
    exact ⟨_, rfl, (h.jumpIf (htop le_rfl) _ opnd).of_writes_zero rfl (fun hst => nomatch hst)⟩
  | ret _ =>
    obtain rfl := Except.ok.inj hw
    exact ⟨_, rfl, (h.pop.redirect (h.pop_word_eq (htop le_rfl))).of_writes_zero rfl (fun hst => nomatch hst)⟩
  | pop _ =>
    obtain rfl := Except.ok.inj hw
    exact ⟨_, rfl, h.pop.of_writes_zero rfl (fun hst => nomatch hst)⟩
  | out _ =>
    obtain rfl := Except.ok.inj hw
    exact ⟨_, rfl, (h.pop.emit (h.pop_word_eq (htop le_rfl))).of_writes_zero rfl (fun hst => nomatch hst)⟩
  | call _ opnd =>
    obtain rfl := Except.ok.inj hw
    exact ⟨_, rfl, ((h.push rfl).redirect rfl).of_writes_one rfl (Set.mem_insert _ _)⟩
  | push _ opnd =>
    obtain rfl := Except.ok.inj hw
    exact ⟨_, rfl, (h.push rfl).of_writes_one rfl (Set.mem_insert _ _)⟩
  | dup _ =>
    obtain rfl := Except.ok.inj hw
    exact ⟨_, rfl, (h.push (h.top_eq (htop le_rfl))).of_writes_two rfl (Set.mem_insert _ _) (.inr (htop le_rfl))⟩
  | swap _ =>
    obtain rfl := Except.ok.inj hw
    have hfirst := h.pop_pop_push (hsecond le_rfl) (h.pop_word_eq (htop one_le_two))
    have hboth := hfirst.push (h.pop_pop_word_eq (hsecond le_rfl))
    exact ⟨_, rfl, hboth.of_writes_two rfl (.inr (htop one_le_two)) (.inr (hsecond le_rfl))⟩
  | ld w0 =>
    obtain rfl := Except.ok.inj hw
    have hword := h.pop_word_eq (htop le_rfl)
    have hnamed : addressOf t.st.cfg t.pop.1 ∈ readCells (.ld w0) t.st :=
      .inr ⟨rfl, by rw [Work.pop_word, State.pop_word_eq_top hn]⟩
    refine ⟨_, rfl, (h.pop_push (htop le_rfl) ?_).of_writes_one rfl (htop le_rfl)⟩
    rw [hword]
    exact h.pop.read_eq _ hnamed
  | st _ =>
    obtain rfl := Except.ok.inj hw
    rw [writtenCells_st, ← State.pop_word_eq_top hn]
    refine ⟨_, rfl, (h.pop.pop.write (h.pop_word_eq (htop one_le_two)) (h.pop_pop_word_eq (hsecond le_rfl))).mono ?_⟩
    exact Set.singleton_subset_iff.mpr (Set.mem_insert _ _)
  | inc _ | dec _ | not _ =>
    obtain rfl := Except.ok.inj hw
    exact ⟨_, rfl, (h.unOp (htop le_rfl) _).of_writes_one rfl (htop le_rfl)⟩
  | add _ | sub _ | and _ | or _ | xor _ | eq _ | lt _ | gt _ =>
    obtain rfl := Except.ok.inj hw
    exact ⟨_, rfl, (h.binOp (htop one_le_two) (hsecond le_rfl) _).of_writes_one rfl (hsecond le_rfl)⟩
  | in_ w0 =>
    cases hin : t.st.input with
    | nil => simp [execBody, Work.takeInput, hin] at hw
    | cons x xs =>
      have hin' : t'.st.input = x :: xs := by rw [h.eq_but_mem]; exact hin
      rw [execBody_in_of_cons hin] at hw
      obtain rfl := Except.ok.inj hw
      exact ⟨_, execBody_in_of_cons hin' w0 s, (h.takeInput.push rfl).of_writes_one rfl (Set.mem_insert _ _)⟩

/-- The `Exec` phase takes its operands from the working copy, and from the pre-step state no memory. -/
theorem execBody_mem (i : Instr) (s : State) (m : Memory) (t : Work) :
    execBody i { s with mem := m } t = execBody i s t := by
  cases i <;> rfl

/-- With input for an IN, every `Exec` phase succeeds (40_step_engine.md R88). -/
theorem execBody_ok_of_input {i : Instr} (s : State) {t : Work} (hin : i.op = .in_ → t.st.input ≠ []) :
    ∃ w, execBody i s t = .ok w := by
  cases hb : execBody i s t with
  | error e =>
    obtain ⟨hop, hempty, -⟩ := execBody_error hb
    exact absurd hempty (hin hop)
  | ok w => exact ⟨w, rfl⟩

theorem exec_of_execBody_ok {i : Instr} {s : State} {w : Work} (h : execBody i s (Work.start s) = .ok w) :
    exec i s = finish s i.op i.stmt w := by
  rw [exec_eq_runOp, runOp_of_ok h]

/-- The detector looks at no memory (40_step_engine.md R86). -/
theorem Work.AgreeOn.stopsOnCollision_eq {A : Set Nat} {t t' : Work} (h : t.AgreeOn A t') (s : State) (m : Memory)
    (op : Op) : stopsOnCollision { s with mem := m } t' op = stopsOnCollision s t op := by
  rw [h.eq_but_mem]
  rfl

theorem Work.AgreeOn.commit_eq {A : Set Nat} {t t' : Work} (h : t.AgreeOn A t') (op : Op) (x : Stmt) :
    commit t' op x = { commit t op x with mem := (commit t' op x).mem } := by
  rw [h.eq_but_mem]
  rfl

/-- Two arrays that agree on one name of an address agree on every other (20_memory.md R42). -/
theorem State.read_eq_of_addressOf_eq {s : State} {m : Memory} {a b : Int} (h : addressOf s.cfg a = addressOf s.cfg b)
    (hb : ({ s with mem := m } : State).read b = s.read b) : ({ s with mem := m } : State).read a = s.read a := by
  change Memory.read m (addressOf s.cfg b) = Memory.read s.mem (addressOf s.cfg b) at hb
  change Memory.read m (addressOf s.cfg a) = Memory.read s.mem (addressOf s.cfg a)
  rw [h, hb]

/-- The invariants ask of memory its canonical form alone (10_state.md R31). -/
theorem State.wf_of_mem_wf {s : State} {m : Memory} (h : s.wf) (hm : Memory.wf s.cfg m) :
    ({ s with mem := m } : State).wf := by
  obtain ⟨hcfg, -, hrest⟩ := h
  exact ⟨hcfg, hm, hrest⟩

/-- Settles O39: the two `Exec` phases agree on the written cells, and the phases after them look at no memory. -/
theorem onlyTheStackOperandsAreRead : Obligations.OnlyTheStackOperandsAreRead := by
  intro s m i hs hm hin hstack hld
  have hstart : Work.AgreeOn (readCells i s) (Work.start s) (Work.start { s with mem := m }) := by
    refine ⟨rfl, hs, State.wf_of_mem_wf hs hm, fun a ha => ?_⟩
    rcases mem_readCells_iff.mp ha with ⟨j, hj, heq⟩ | ⟨hop, heq⟩
    · exact State.read_eq_of_addressOf_eq heq (hstack j hj)
    · exact State.read_eq_of_addressOf_eq heq (hld hop)
  obtain ⟨w, hbody⟩ := execBody_ok_of_input (t := Work.start s) s hin
  obtain ⟨w', hbody', hagree⟩ := execBody_agreeOn hstart hbody
  rw [← execBody_mem i s m] at hbody'
  have hadv := hagree.advance s i.op.len
  rw [exec_of_execBody_ok hbody, exec_of_execBody_ok hbody']
  have hstops := hadv.stopsOnCollision_eq s m i.op
  cases hstop : stopsOnCollision s (w.advance s i.op.len) i.op with
  | true =>
    rw [finish_of_stops hstop, finish_of_stops (hstops.trans hstop)]
    exact ⟨nofun, fun f hf => hf⟩
  | false =>
    rw [finish_of_clear hstop, finish_of_clear (hstops.trans hstop)]
    refine ⟨fun t ht => ?_, nofun⟩
    obtain rfl := Host.Outcome.next.inj ht
    refine ⟨_, rfl, hadv.commit_eq i.op i.stmt, fun a ha => hadv.read_eq a ?_⟩
    rw [Work.advance_cfg, execBody_cfg hbody]
    exact mem_writtenCells_iff.mpr ha

end Sys2Proof.Machine

/-! The step engine (40_step_engine.md): what a STEP answers in each of its four cases, and what follows for the status, the
channels, the collision policy and the FSM. -/

namespace Sys2Proof.Machine

/-! ## The collision detector as the table of 70_reset_and_hazards.md R187 -/

@[simp] theorem Work.advance_inTake (t : Work) (s : State) (k : Nat) : (t.advance s k).inTake = t.inTake := by
  rw [Work.advance_frame]

@[simp] theorem Work.advance_out (t : Work) (s : State) (k : Nat) : (t.advance s k).out = t.out := by
  rw [Work.advance_frame]

section
variable {i : Instr} {s : State} {w : Work}

/-- The detector on an instruction that leaves `pc` to the sequential advance: `c1`, `c2` and `c3`. -/
theorem clear_iff_of_seq (hred : w.redirected = false) : stopsOnCollision s (w.advance s i.op.len) i.op = false ↔
    (s.cfg.policy = .fault →
      i.op.len ≤ s.gap ∧ s.gap + i.op.reads < s.cfg.n ∧ i.op.len + i.op.writes < s.gap + i.op.reads) := by
  rw [Work.advance_of_seq hred]
  exact stopsOnCollision_seq (by exact hred) _

/-- The detector on an instruction that redirects `pc`: `c1` and `c2` from the gap, `c4` from the target and the new `sp`. -/
theorem clear_iff_of_redirected (hs : s.wf) (hbody : execBody i s (Work.start s) = .ok w) (hred : w.redirected = true)
    {target : Nat} (hpc : w.st.pc = addressOf s.cfg target) :
    stopsOnCollision s (w.advance s i.op.len) i.op = false ↔
      (s.cfg.policy = .fault → i.op.len ≤ s.gap ∧ s.gap + i.op.reads < s.cfg.n)
        ∧ TargetClear s target ((s.sp : Int) + ((i.op.reads : Int) - i.op.writes)) := by
  obtain ⟨-, -, -, hsp, -⟩ := hs
  have hnewsp := execBody_sp hsp hbody
  rw [Work.start_st] at hnewsp
  rw [Work.advance_of_redirected hred, stopsOnCollision_redirected hred, hpc, hnewsp, ← forall_and]
  exact forall_congr' fun _ => and_assoc.symm

/-- A conditional jump collides by the gap alone where it is not taken, and by its target too where it is. -/
theorem clear_iff_of_jumpIf (hs : s.wf) {test : Nat → Bool} {opnd : Nat} (hlen : i.op.len = 2) (hreads : i.op.reads = 1)
    (hwrites : i.op.writes = 0) (hbody : execBody i s (Work.start s) = .ok ((Work.start s).jumpIf test opnd)) :
    stopsOnCollision s (((Work.start s).jumpIf test opnd).advance s i.op.len) i.op = false ↔
      GapBetween s 2 2 ∧ (test s.top = true → TargetClear s opnd ((s.sp : Int) + 1)) := by
  have htop : (Work.start s).pop.1 = s.top := State.pop_word_eq_top (State.one_le_n hs)
  cases htest : test s.top with
  | true =>
    rw [Work.jumpIf_of_true (htop ▸ htest)] at hbody ⊢
    rw [clear_iff_of_redirected hs hbody rfl rfl, hlen, hreads, hwrites]
    exact and_congr (forall_congr' fun _ => by omega) ⟨fun h _ => h, fun h => h rfl⟩
  | false =>
    rw [Work.jumpIf_of_false (htop ▸ htest), clear_iff_of_seq rfl, hlen, hreads, hwrites]
    simp only [Bool.false_eq_true, false_imp_iff, and_true]
    exact forall_congr' fun _ => by omega

/-- The collision detector lets an instruction pass exactly under the condition of 70_reset_and_hazards.md R187, which the
state before the step decides. -/
theorem clear_iff_commitCondition (hs : s.wf) (hbody : execBody i s (Work.start s) = .ok w) :
    stopsOnCollision s (w.advance s i.op.len) i.op = false ↔ CommitCondition i s := by
  have hgap := State.gap_lt (State.one_le_n hs)
  cases i with
  | halt _ | inert _ | push _ _ | pop _ | dup _ | swap _ | ld _ | st _ | out _ | inc _ | dec _ | not _ | add _ | sub _
  | and _ | or _ | xor _ | eq _ | lt _ | gt _ =>
    obtain rfl := Except.ok.inj hbody
    refine (clear_iff_of_seq rfl).trans (forall_congr' fun _ => ?_)
    simp only [Instr.op, Op.len, Op.reads, Op.writes]
    omega
  | in_ _ =>
    obtain ⟨x, rfl⟩ := execBody_in_ok hbody
    refine (clear_iff_of_seq rfl).trans (forall_congr' fun _ => ?_)
    simp only [Instr.op, Op.len, Op.reads, Op.writes]
    omega
  | jmp _ opnd | call _ opnd =>
    have hw := Except.ok.inj hbody
    refine (clear_iff_of_redirected hs hbody (hw ▸ rfl) (hw ▸ rfl)).trans (and_congr (forall_congr' fun _ => ?_) Iff.rfl)
    simp only [Instr.op, Op.len, Op.reads]
    omega
  | ret _ =>
    have hw := Except.ok.inj hbody
    have hpc : w.st.pc = addressOf s.cfg s.top := by
      rw [← State.pop_word_eq_top (State.one_le_n hs), ← hw]
      rfl
    refine (clear_iff_of_redirected hs hbody (hw ▸ rfl) hpc).trans (and_congr (forall_congr' fun _ => ?_) Iff.rfl)
    simp only [Instr.op, Op.len, Op.reads]
    omega
  | jz _ _ =>
    obtain rfl := Except.ok.inj hbody
    refine (clear_iff_of_jumpIf hs rfl rfl rfl hbody).trans (and_congr Iff.rfl (imp_congr ?_ Iff.rfl))
    simp [isZeroWord]
  | jnz _ _ =>
    obtain rfl := Except.ok.inj hbody
    refine (clear_iff_of_jumpIf hs rfl rfl rfl hbody).trans (and_congr Iff.rfl (imp_congr ?_ Iff.rfl))
    simp [isZeroWord]

end

/-! ## The four ways a STEP ends -/

section
variable {i : Instr} {s : State} {w : Work}

/-- IN on an empty channel fails in its `Exec` phase, before the detector (40_step_engine.md R88). -/
theorem execBody_of_held {t : Work} (hop : i.op = .in_) (hin : t.st.input = []) :
    execBody i s t = .error .inputExhausted := by
  cases i with
  | in_ w0 => simp [execBody, Work.takeInput, hin]
  | _ => cases hop

theorem exec_of_held (hop : i.op = .in_) (hin : s.input = []) :
    exec i s = .next { s with port := some (errorPort .inputExhausted) } :=
  (exec_eq_runOp i s).trans (runOp_of_error (execBody_of_held hop hin))

theorem not_held_of_execBody_ok (hbody : execBody i s (Work.start s) = .ok w) : ¬ (i.op = .in_ ∧ s.input = []) :=
  fun ⟨hop, hin⟩ => nomatch hbody.symm.trans (execBody_of_held hop hin)

theorem exec_of_stops (hbody : execBody i s (Work.start s) = .ok w)
    (hstop : stopsOnCollision s (w.advance s i.op.len) i.op = true) : exec i s = .fault .cursorCollision :=
  (exec_of_execBody_ok hbody).trans (finish_of_stops hstop)

theorem exec_of_clear (hbody : execBody i s (Work.start s) = .ok w)
    (hclear : stopsOnCollision s (w.advance s i.op.len) i.op = false) :
    exec i s = .next (commit (w.advance s i.op.len) i.op i.stmt) :=
  (exec_of_execBody_ok hbody).trans (finish_of_clear hclear)

/-- An instruction is held, or gets through its `Exec` phase. -/
theorem held_or_execBody_ok (i : Instr) (s : State) :
    (i.op = .in_ ∧ s.input = []) ∨ ∃ w, execBody i s (Work.start s) = .ok w := by
  by_cases hheld : i.op = .in_ ∧ s.input = []
  · exact .inl hheld
  · exact .inr (execBody_ok_of_input s fun hop hin => hheld ⟨hop, hin⟩)

end

theorem step_of_halted {s : State} (h : s.halted = true) : step s = .fault .alreadyHalted := by
  simp [step, haltGate, h, raise]

section
variable {s : State}

theorem stepTransaction_of_fault {f : Fault} (h : step s = .fault f) :
    stepTransaction s = (some (errorPort f.status), s) := by
  simp [stepTransaction, h]

theorem stepTransaction_of_next {t : State} (h : step s = .next t) : stepTransaction s = (t.port, t) := by
  simp [stepTransaction, h]

end

/-- The ways a STEP of `s` ends, each with the outputs it drives and the state after it, in the order in which
40_step_engine.md R88 looks for errors. -/
inductive StepEnd (s : State) : StepPort → State → Prop
  | halted (hhalted : s.halted = true) : StepEnd s (errorPort .alreadyHalted) s
  | held (hrun : s.halted = false) (hop : (fetchInstr s).op = .in_) (hin : s.input = []) :
      StepEnd s (errorPort .inputExhausted) { s with port := some (errorPort .inputExhausted) }
  | collided {w : Work} (hrun : s.halted = false) (hbody : execBody (fetchInstr s) s (Work.start s) = .ok w)
      (hstop : stopsOnCollision s (w.advance s (fetchInstr s).op.len) (fetchInstr s).op = true) :
      StepEnd s (errorPort .cursorCollision) s
  | committed {w : Work} (hrun : s.halted = false) (hbody : execBody (fetchInstr s) s (Work.start s) = .ok w)
      (hclear : stopsOnCollision s (w.advance s (fetchInstr s).op.len) (fetchInstr s).op = false) :
      StepEnd s (commitPort (w.advance s (fetchInstr s).op.len) (fetchInstr s).stmt)
        (commit (w.advance s (fetchInstr s).op.len) (fetchInstr s).op (fetchInstr s).stmt)

namespace StepEnd

variable {s t : State} {p : StepPort}

/-- An end of the STEP is what the transaction answers. -/
theorem stepTransaction_eq (h : StepEnd s p t) : stepTransaction s = (some p, t) := by
  cases h with
  | halted hhalted => exact stepTransaction_of_fault (step_of_halted hhalted)
  | held hrun hop hin => exact stepTransaction_of_next ((step_of_running hrun).trans (exec_of_held hop hin))
  | collided hrun hbody hstop => exact stepTransaction_of_fault ((step_of_running hrun).trans (exec_of_stops hbody hstop))
  | committed hrun hbody hclear =>
    exact stepTransaction_of_next ((step_of_running hrun).trans (exec_of_clear hbody hclear))

/-- Every STEP has an end. -/
theorem exists_of_state (s : State) : ∃ p t, StepEnd s p t := by
  cases hhalted : s.halted with
  | true => exact ⟨_, _, halted hhalted⟩
  | false =>
    rcases held_or_execBody_ok (fetchInstr s) s with ⟨hop, hin⟩ | ⟨w, hbody⟩
    · exact ⟨_, _, held hhalted hop hin⟩
    · cases hstop : stopsOnCollision s (w.advance s (fetchInstr s).op.len) (fetchInstr s).op with
      | true => exact ⟨_, _, collided hhalted hbody hstop⟩
      | false => exact ⟨_, _, committed hhalted hbody hstop⟩

/-- What the transaction answers is an end of the STEP. -/
theorem of_stepTransaction (h : stepTransaction s = (some p, t)) : StepEnd s p t := by
  obtain ⟨q, u, hend⟩ := exists_of_state s
  obtain ⟨hport, rfl⟩ := Prod.mk.inj (hend.stepTransaction_eq.symm.trans h)
  obtain rfl := Option.some.inj hport
  exact hend

end StepEnd

/-! ## The halt gate and the fetch -/

/-- Settles O32: the gate answers before anything is fetched. -/
theorem haltGateChangesNothing : Obligations.HaltGateChangesNothing := fun _ hhalted =>
  ⟨step_of_halted hhalted, (StepEnd.halted hhalted).stepTransaction_eq⟩

/-- The operand word is no part of an instruction of format F1 (30_encoding.md R60). -/
theorem ofOp_eq_of_len_ne_two {op : Op} (h : op.len ≠ 2) (w0 x y : Nat) : Instr.ofOp op w0 x = Instr.ofOp op w0 y := by
  cases op with
  | jmp | jz | jnz | call | push => exact absurd rfl h
  | _ => rfl

/-- The instruction a STEP fetches is the one the decoder reads from the words at `pc` and `pc + 1`. -/
theorem fetchInstr_of_decode {s : State} {i : Instr} {rest : List Nat}
    (h : decode s.cfg [s.read s.pc, s.read ((s.pc : Int) + 1)] = .ok (i, rest)) : fetchInstr s = i := by
  rcases decode_ok_cases h with ⟨w0, opnd, -, rfl, hws⟩ | ⟨w0, hlen, rfl, hws⟩
  · obtain ⟨rfl, rfl, -⟩ := by simpa using hws
    rfl
  · obtain ⟨rfl, -⟩ := List.cons.inj hws
    exact ofOp_eq_of_len_ne_two hlen _ _ _

/-- Settles O31: every word of memory is a `W`-bit word, so what the decoder reads is well formed. -/
theorem stepRunsTheFetchedInstruction : Obligations.StepRunsTheFetchedInstruction := by
  intro s i rest hs hrun hdecode
  have hfit : ∀ x ∈ [s.read s.pc, s.read ((s.pc : Int) + 1)], x < 2 ^ s.cfg.w := by simp [State.read_lt hs]
  obtain ⟨hwf, -⟩ := decodedWordsAreTheEncoding s.cfg _ i rest hfit hdecode
  exact ⟨hwf, fetchInstr_of_decode hdecode ▸ step_of_running hrun⟩

/-! ## The status and what an error leaves -/

/-- Settles O33, one end of the STEP at a time. -/
theorem statusOfEveryStep : Obligations.StatusOfEveryStep := by
  intro s hs
  obtain ⟨p, t, hend⟩ := StepEnd.exists_of_state s
  refine ⟨p, t, hend.stepTransaction_eq, ?_⟩
  cases hend with
  | halted hhalted => simp [hhalted, errorPort]
  | held hrun hop hin => simp [hrun, hop, hin, errorPort]
  | collided hrun hbody hstop =>
    have hcond : ¬ CommitCondition (fetchInstr s) s := fun hcond => by
      rw [(clear_iff_commitCondition hs hbody).mpr hcond] at hstop
      cases hstop
    exact ⟨fun h => absurd h (by simp [hrun]), fun _ hheld => absurd hheld (not_held_of_execBody_ok hbody),
      fun _ _ _ => rfl, fun _ _ h => absurd h hcond⟩
  | committed hrun hbody hclear =>
    have hcond := (clear_iff_commitCondition hs hbody).mp hclear
    exact ⟨fun h => absurd h (by simp [hrun]), fun _ hheld => absurd hheld (not_held_of_execBody_ok hbody),
      fun _ _ h => absurd hcond h, fun _ _ _ => rfl⟩

/-- Settles O34: only a commit has status OK. -/
theorem anErrorCommitsNothing : Obligations.AnErrorCommitsNothing := by
  intro s t p h hne
  cases StepEnd.of_stepTransaction h with
  | halted | held | collided => exact ⟨rfl, rfl⟩
  | committed => exact absurd rfl hne

/-! ## What a commit takes from the state before it -/

section
variable {i : Instr} {s : State} {w : Work} (hbody : execBody i s (Work.start s) = .ok w)
include hbody

/-- The state an instruction commits has its fields other than the memory and the cursors from the state before the step,
until the commit itself changes them (40_step_engine.md R89 to R92). -/
theorem execBody_advance_frame (k : Nat) : (w.advance s k).st =
    { s with mem := (w.advance s k).st.mem, pc := (w.advance s k).st.pc, sp := (w.advance s k).st.sp } := by
  obtain ⟨hst, -⟩ := execBody_frame hbody
  rw [Work.advance_frame, hst]
  rfl

/-- A commit of a core that is not halted leaves `halted` set exactly for HALT (40_step_engine.md R90). -/
theorem commit_halted_iff (hrun : s.halted = false) (k : Nat) (x : Stmt) :
    (commit (w.advance s k) i.op x).halted = true ↔ i.op = .halt := by
  rw [commit_halted, execBody_advance_frame hbody]
  simp [hrun]

/-- An instruction takes input exactly if it is an IN (44_io.md R142). -/
theorem execBody_inTake_iff : w.inTake = true ↔ i.op = .in_ := by
  obtain ⟨-, hother, hin, -⟩ := execBody_frame hbody
  refine ⟨fun htake => ?_, hin⟩
  by_contra hop
  rw [hother hop] at htake
  cases htake

/-- An instruction gives a word to the output channel exactly if it is an OUT (44_io.md R143). -/
theorem execBody_out_isSome_iff : w.out.isSome = true ↔ i.op = .out := by
  obtain ⟨-, -, -, hother, hout⟩ := execBody_frame hbody
  refine ⟨fun hsome => ?_, hout⟩
  by_contra hop
  rw [hother hop] at hsome
  cases hsome

end

/-- Settles O36: a hold is an IN of a core that is not halted, and a commit is told by `commit_halted_iff`. -/
theorem onlyHaltSetsHalted : Obligations.OnlyHaltSetsHalted := by
  intro s t hstep
  obtain ⟨hrun, hexec⟩ := step_next hstep
  rw [← fetchInstr_op]
  rcases exec_next_cases hexec with ⟨hop, -, rfl⟩ | ⟨w, hbody, -, rfl⟩
  · simp [hop, hrun]
  · exact commit_halted_iff hbody hrun _ _

/-- Settles O37: an error drives neither signal, and a commit drives what the `Exec` phase took and gave. -/
theorem channelsChangeAsDriven : Obligations.ChannelsChangeAsDriven := by
  intro s t p h
  cases StepEnd.of_stepTransaction h with
  | halted | held | collided => simp [errorPort, StepPort.outValid]
  | committed hrun hbody hclear =>
    have hst := execBody_advance_frame hbody (fetchInstr s).op.len
    refine ⟨?_, ?_, ?_, ?_⟩
    · rw [commit_input, hst]
      rfl
    · rw [commit_output, hst]
      rfl
    · simpa [commitPort] using execBody_inTake_iff hbody
    · simpa [commitPort, StepPort.outValid] using execBody_out_isSome_iff hbody

/-! ## The collision policy -/

/-- Under TOLERATE the detector stops nothing (40_step_engine.md R87). -/
theorem stopsOnCollision_of_tolerate {s : State} (h : s.cfg.policy = .tolerate) (t : Work) (op : Op) :
    stopsOnCollision s t op = false := by
  simp [stopsOnCollision, h]

/-- Settles O41: under TOLERATE a STEP that is not gated is held or commits. -/
theorem tolerateNeverCollides : Obligations.TolerateNeverCollides := by
  intro s hpol
  cases hhalted : s.halted with
  | true => simp [step_of_halted hhalted]
  | false =>
    rw [step_of_running hhalted]
    rcases held_or_execBody_ok (fetchInstr s) s with ⟨hop, hin⟩ | ⟨w, hbody⟩
    · simp [exec_of_held hop hin]
    · simp [exec_of_clear hbody (stopsOnCollision_of_tolerate hpol _ _)]

/-- Cursors that meet have no gap (40_step_engine.md R86). -/
theorem State.gap_eq_zero {s : State} (h : s.pc = s.sp) : s.gap = 0 := by
  simp [State.gap, h, addressOf]

/-- A gap shorter than the instruction stops every step under FAULT: `c1` of 40_step_engine.md R86. -/
theorem stopsOnCollision_of_gap_lt {s : State} {op : Op} (hpol : s.cfg.policy = .fault) (h : s.gap < op.len) (t : Work) :
    stopsOnCollision s t op = true := by
  simp [stopsOnCollision, collide, hpol, h]

/-- Settles O42: every instruction is longer than the gap 0. -/
theorem meetingCursorsAlwaysCollide : Obligations.MeetingCursorsAlwaysCollide := by
  intro s i _ hpol hmeet hin
  obtain ⟨w, hbody⟩ := execBody_ok_of_input (t := Work.start s) s hin
  have hlen := Op.len_eq_one_or_two i.op
  have hgap := State.gap_eq_zero hmeet
  exact exec_of_stops hbody (stopsOnCollision_of_gap_lt hpol (by omega) _)

/-! ## The FSM -/

theorem State.fsm_eq_halted {s : State} (h : s.fsm = some .halted) : s.halted = true := by
  cases hhalted : s.halted with
  | true => rfl
  | false => cases hstarted : s.started <;> simp [State.fsm, hhalted, hstarted] at h

theorem State.not_halted_of_fsm {s : State} (h : s.fsm = some .ready ∨ s.fsm = some .running) : s.halted = false := by
  cases hhalted : s.halted with
  | true => cases hstarted : s.started <;> simp [State.fsm, hhalted, hstarted] at h
  | false => rfl

/-- The FSM state of a core that has committed a STEP (10_state.md R26). -/
theorem State.fsm_of_started {s : State} (h : s.started = true) :
    s.fsm = if s.halted = true then some .halted else some .running := by
  unfold State.fsm
  rw [h]
  cases s.halted <;> rfl

/-- LOAD resets the core where it accepts the program, and leaves the state where it refuses it
(70_reset_and_hazards.md R181 to R183). -/
theorem load_cases (p : List Nat) (s : State) :
    load p s = (.ok, resetWith (programMemory s.cfg 0 p) s) ∨ ∃ e, e ≠ .ok ∧ load p s = (e, s) := by
  unfold load
  split
  · exact .inr ⟨.emptyProgram, nofun, rfl⟩
  · split
    · exact .inr ⟨.programTooLarge, nofun, rfl⟩
    · exact .inl rfl

/-- Settles O49, one row of the table at a time. -/
theorem fsmTransitions : Obligations.FsmTransitions := by
  intro s
  refine ⟨rfl, fun p hok => ?_, fun p herr => ?_, rfl, fun hfsm => ?_, fun hfsm p hp => ?_⟩
  · rcases load_cases p s with hload | ⟨e, he, hload⟩
    · simp only [transact, hload]
      rfl
    · simp [transact, hload, he] at hok
  · rcases load_cases p s with hload | ⟨e, -, hload⟩
    · simp [transact, hload] at herr
    · simp only [transact, hload]
  · have hgate := (StepEnd.halted (State.fsm_eq_halted hfsm)).stepTransaction_eq
    simp [transact, hgate, hfsm, errorPort]
  · have hrun := State.not_halted_of_fsm hfsm
    have hend : StepEnd s p (transact .step s).2 := .of_stepTransaction (Prod.ext hp rfl)
    generalize (transact .step s).2 = t at hend ⊢
    cases hend with
    | halted hhalted => simp [hrun] at hhalted
    | held | collided => exact ⟨nofun, fun _ => rfl⟩
    | committed _ hbody _ =>
      refine ⟨fun _ => ?_, fun hne => absurd rfl hne⟩
      rw [← fetchInstr_op, State.fsm_of_started (commit_started _ _ _)]
      simp only [commit_halted_iff hbody hrun]

/-! ## The input channel -/

/-- The working copy with another input channel. -/
def Work.withInput (t : Work) (zs : List Nat) : Work := { t with st := { t.st with input := zs } }

theorem Work.start_withInput (s : State) (zs : List Nat) :
    Work.start { s with input := zs } = (Work.start s).withInput zs := rfl

theorem Work.jumpIf_withInput (t : Work) (zs : List Nat) (test : Nat → Bool) (opnd : Nat) :
    (t.withInput zs).jumpIf test opnd = (t.jumpIf test opnd).withInput zs := by
  cases htest : test t.pop.1 with
  | true => rw [Work.jumpIf_of_true htest, Work.jumpIf_of_true (t := t.withInput zs) htest]; rfl
  | false => rw [Work.jumpIf_of_false htest, Work.jumpIf_of_false (t := t.withInput zs) htest]; rfl

theorem Work.advance_withInput (t : Work) (zs : List Nat) (s : State) (k : Nat) :
    (t.withInput zs).advance s k = (t.advance s k).withInput zs := by
  cases hred : t.redirected with
  | true => rw [Work.advance_of_redirected hred, Work.advance_of_redirected (t := t.withInput zs) hred]
  | false => rw [Work.advance_of_seq hred, Work.advance_of_seq (t := t.withInput zs) hred]; rfl

section
variable {i : Instr} {s : State} {zs : List Nat}

/-- The `Exec` phase leaves the input channel as it finds it, and looks at its head alone, in an IN (44_io.md R140). -/
theorem execBody_withInput {t w : Work} (hhead : i.op = .in_ → zs.head? = t.st.input.head?)
    (hbody : execBody i s t = .ok w) : execBody i s (t.withInput zs) = .ok (w.withInput zs) := by
  cases i with
  | jz _ opnd | jnz _ opnd =>
    obtain rfl := Except.ok.inj hbody
    exact congrArg Except.ok (Work.jumpIf_withInput t zs _ opnd)
  | in_ w0 =>
    cases hin : t.st.input with
    | nil => exact nomatch hbody.symm.trans (execBody_of_held (i := .in_ w0) rfl hin)
    | cons x xs =>
      obtain ⟨ys, rfl⟩ : ∃ ys, zs = x :: ys := List.head?_eq_some_iff.mp (by rw [hhead rfl, hin]; rfl)
      rw [execBody_in_of_cons hin] at hbody
      obtain rfl := Except.ok.inj hbody
      exact execBody_in_of_cons rfl w0 s
  | _ => obtain rfl := Except.ok.inj hbody; rfl

/-- From the pre-step state the `Exec` phase takes `pc` and the parameters, and no channel. -/
theorem execBody_pre_withInput (i : Instr) (s : State) (zs : List Nat) (t : Work) :
    execBody i { s with input := zs } t = execBody i s t := by
  cases i <;> rfl

variable {w : Work} (hhead : i.op = .in_ → zs.head? = s.input.head?) (hbody : execBody i s (Work.start s) = .ok w)
include hhead hbody

theorem exec_withInput_of_stops (hstop : stopsOnCollision s (w.advance s i.op.len) i.op = true) :
    exec i { s with input := zs } = .fault .cursorCollision := by
  have hbody' := (execBody_pre_withInput i s zs _).trans (execBody_withInput hhead hbody)
  refine exec_of_stops hbody' ?_
  rw [Work.advance_withInput]
  exact hstop

/-- An instruction that commits commits the same with another input channel, the head of which matters to an IN. -/
theorem exec_withInput_of_clear (hclear : stopsOnCollision s (w.advance s i.op.len) i.op = false) :
    exec i { s with input := zs } =
      .next { commit (w.advance s i.op.len) i.op i.stmt with input := if i.op = .in_ then zs.tail else zs } := by
  have hbody' := (execBody_pre_withInput i s zs _).trans (execBody_withInput hhead hbody)
  have hclear' : stopsOnCollision { s with input := zs } ((w.withInput zs).advance s i.op.len) i.op = false := by
    rw [Work.advance_withInput]
    exact hclear
  refine (exec_of_clear hbody' hclear').trans (congrArg Host.Outcome.next ?_)
  simp only [← execBody_inTake_iff hbody, ← Work.advance_inTake w s i.op.len]
  change commit ((w.withInput zs).advance s i.op.len) i.op i.stmt = _
  rw [Work.advance_withInput]
  rfl

end

/-- The fetch reads no channel (40_step_engine.md R82, R83). -/
theorem step_withInput_of_running {s : State} (hrun : s.halted = false) (zs : List Nat) :
    step { s with input := zs } = exec (fetchInstr s) { s with input := zs } :=
  step_of_running (s := { s with input := zs }) hrun

/-- Settles O40: each end of a STEP is the same end with the other channel. -/
theorem onlyInReadsTheInputChannel : Obligations.OnlyInReadsTheInputChannel := by
  intro s ys
  refine ⟨fun hop => ?_, fun x xs hin t hstep hop => ?_⟩
  · obtain ⟨p, t, hend⟩ := StepEnd.exists_of_state s
    rw [hend.stepTransaction_eq]
    cases hend with
    | halted hhalted => exact (StepEnd.halted (s := { s with input := ys }) hhalted).stepTransaction_eq
    | held _ hheld _ => exact absurd hheld hop
    | collided hrun hbody hstop =>
      refine stepTransaction_of_fault (f := .cursorCollision) ((step_withInput_of_running hrun ys).trans ?_)
      exact exec_withInput_of_stops (fun h => absurd h hop) hbody hstop
    | committed hrun hbody hclear =>
      have hexec := exec_withInput_of_clear (zs := ys) (fun h => absurd h hop) hbody hclear
      rw [if_neg hop] at hexec
      exact stepTransaction_of_next ((step_withInput_of_running hrun ys).trans hexec)
  · obtain ⟨hrun, hexec⟩ := step_next hstep
    rcases exec_next_cases hexec with ⟨-, hempty, -⟩ | ⟨w, hbody, hclear, rfl⟩
    · cases hin.symm.trans hempty
    · have hexec' := exec_withInput_of_clear (zs := x :: ys) (fun _ => by rw [hin]; rfl) hbody hclear
      rw [if_pos hop] at hexec'
      exact (step_withInput_of_running hrun _).trans hexec'

end Sys2Proof.Machine

/-! Control flow (41_control_flow.md): what HALT, an inert word, the jumps, CALL and RET do in full, what a RET right after a
CALL restores, and the hang of a JMP to itself. -/

namespace Sys2Proof.Machine

/-! ## An instruction told in full from its `Exec` phase -/

/-- The sequential advance from the pre-step `pc` (40_step_engine.md R85). -/
theorem Work.advance_pc_of_seq {t : Work} (h : t.redirected = false) (s : State) (k : Nat) :
    (t.advance s k).st.pc = addressOf t.st.cfg ((s.pc : Int) + k) := by
  rw [Work.advance_of_seq h, State.setPc_pc]

/-- A redirected step keeps the `pc` its operation wrote (40_step_engine.md R85). -/
theorem Work.advance_pc_of_redirected {t : Work} (h : t.redirected = true) (s : State) (k : Nat) :
    (t.advance s k).st.pc = t.st.pc := by
  rw [Work.advance_of_redirected h]

section
variable {i : Instr} {s : State} {w : Work} (hbody : execBody i s (Work.start s) = .ok w)
include hbody

/-- The commit does the bookkeeping, with the output and the acknowledgement of the `Exec` phase
(40_step_engine.md R89 to R92). -/
theorem committed_of_execBody (x : Stmt) :
    Committed s (commit (w.advance s i.op.len) i.op x) x w.out w.inTake := by
  have hst := execBody_advance_frame hbody i.op.len
  refine ⟨?_, rfl, rfl, ?_, ?_, ?_⟩
  · rw [commit_cfg, hst]
  · rw [commit_input, Work.advance_inTake, hst]
  · rw [commit_output, Work.advance_out, hst]
  · rw [commit_port, commitPort, Work.advance_inTake, Work.advance_out]

/-- The table of 70_reset_and_hazards.md R187 decides between commit and collision, and a commit moves `sp` by the cells read
and written (30_encoding.md R66) and sets `halted` for HALT alone (40_step_engine.md R90). What is left to say of an
instruction is where `pc` goes and what every cell reads as. -/
theorem commitsTo_of_execBody (hs : s.wf) {pc sp : Int} {mem : Int → Nat}
    (hpc : (w.advance s i.op.len).st.pc = addressOf s.cfg pc)
    (hsp : (s.sp : Int) + ((i.op.reads : Int) - i.op.writes) = sp) (hmem : ∀ a, w.st.read a = mem a) :
    CommitsTo i s (s.halted || decide (i.op = .halt)) pc sp w.out w.inTake mem := by
  refine ⟨fun hcond => ?_, fun hcond => ?_⟩
  · have hclear := (clear_iff_commitCondition hs hbody).mpr hcond
    have hhalted : (w.advance s i.op.len).st.halted = s.halted := by rw [execBody_advance_frame hbody]
    obtain ⟨-, -, -, hlt, -⟩ := hs
    refine ⟨_, exec_of_clear hbody hclear, committed_of_execBody hbody i.stmt, ?_, hpc, ?_, fun a => ?_⟩
    · rw [commit_halted, hhalted]
    · rw [commit_sp, Work.advance_sp, execBody_sp hlt hbody, Work.start_st, hsp]
    · rw [commit_read, Work.advance_read, hmem]
  · have hstop : stopsOnCollision s (w.advance s i.op.len) i.op = true :=
      eq_true_of_ne_false fun hclear => hcond ((clear_iff_commitCondition hs hbody).mp hclear)
    exact exec_of_stops hbody hstop

/-- An instruction that leaves `pc` to the sequential advance goes on by its length (40_step_engine.md R85). -/
theorem commitsTo_of_seq (hs : s.wf) (hred : w.redirected = false) {sp : Int} {mem : Int → Nat}
    (hsp : (s.sp : Int) + ((i.op.reads : Int) - i.op.writes) = sp) (hmem : ∀ a, w.st.read a = mem a) :
    CommitsTo i s (s.halted || decide (i.op = .halt)) ((s.pc : Int) + i.op.len) sp w.out w.inTake mem := by
  refine commitsTo_of_execBody hbody hs ?_ hsp hmem
  rw [Work.advance_pc_of_seq hred, execBody_cfg hbody, Work.start_st]

/-- An instruction that redirects `pc` goes to its target (40_step_engine.md R84, R85). -/
theorem commitsTo_of_redirected (hs : s.wf) (hred : w.redirected = true) {target sp : Int} {mem : Int → Nat}
    (hpc : w.st.pc = addressOf s.cfg target) (hsp : (s.sp : Int) + ((i.op.reads : Int) - i.op.writes) = sp)
    (hmem : ∀ a, w.st.read a = mem a) :
    CommitsTo i s (s.halted || decide (i.op = .halt)) target sp w.out w.inTake mem :=
  commitsTo_of_execBody hbody hs ((Work.advance_pc_of_redirected hred s _).trans hpc) hsp hmem

/-- An instruction that gets through its `Exec` phase and answers a next state answers its commit. -/
theorem eq_commit_of_exec_next {t : State} (hexec : exec i s = .next t) :
    t = commit (w.advance s i.op.len) i.op i.stmt := by
  cases hstop : stopsOnCollision s (w.advance s i.op.len) i.op with
  | true => exact nomatch hexec.symm.trans (exec_of_stops hbody hstop)
  | false => exact Host.Outcome.next.inj (hexec.symm.trans (exec_of_clear hbody hstop))

end

/-- The effect of an instruction other than HALT is told with `halted` as it was (40_step_engine.md R90). -/
theorem CommitsTo.halted_of_ne_halt {i : Instr} {s : State} {pc sp : Int} {out : Option Nat} {ack : Bool} {mem : Int → Nat}
    (h : CommitsTo i s (s.halted || decide (i.op = .halt)) pc sp out ack mem) (hop : i.op ≠ .halt) :
    CommitsTo i s s.halted pc sp out ack mem := by
  rwa [decide_eq_false hop, Bool.or_false] at h

/-- The effect of an instruction that answers a next state: a collision answers none. -/
theorem CommitsTo.of_exec_next {i : Instr} {s t : State} {halted : Bool} {pc sp : Int} {out : Option Nat} {ack : Bool}
    {mem : Int → Nat} (h : CommitsTo i s halted pc sp out ack mem) (hexec : exec i s = .next t) :
    Committed s t i.stmt out ack ∧ t.halted = halted ∧ t.pc = addressOf s.cfg pc ∧ t.sp = addressOf s.cfg sp
      ∧ ∀ a, t.read a = mem a := by
  obtain ⟨hcommits, hcollides⟩ := h
  by_cases hcond : CommitCondition i s
  · obtain ⟨u, hexec', heffect⟩ := hcommits hcond
    obtain rfl := Host.Outcome.next.inj (hexec'.symm.trans hexec)
    exact heffect
  · exact nomatch hexec.symm.trans (hcollides hcond)

/-! ## HALT, the inert word and JMP -/

/-- Settles O9: HALT has no `Exec` effect, and its commit sets `halted`. -/
theorem haltStopsTheMachine : Obligations.HaltStopsTheMachine := by
  intro s w0 hs
  have h := commitsTo_of_seq (i := .halt w0) (w := Work.start s) rfl hs rfl (Int.add_zero _) fun _ => rfl
  rwa [decide_eq_true (show (Instr.halt w0).op = .halt from rfl), Bool.or_true] at h

/-- Settles O10: an inert word has no `Exec` effect. -/
theorem inertWordIsANoOp : Obligations.InertWordIsANoOp := fun s w0 hs =>
  (commitsTo_of_seq (i := .inert w0) (w := Work.start s) rfl hs rfl (Int.add_zero _) fun _ => rfl).halted_of_ne_halt nofun

/-- Settles O11: JMP redirects `pc` and does nothing else. -/
theorem jmpGoesToTheOperand : Obligations.JmpGoesToTheOperand := fun s w0 opnd hs =>
  (commitsTo_of_redirected (i := .jmp w0 opnd) (w := (Work.start s).redirect opnd) rfl hs rfl rfl (Int.add_zero _)
    fun _ => rfl).halted_of_ne_halt nofun

/-! ## The conditional jumps -/

/-- An instruction that pops a word and jumps if it passes a test: the word is popped either way
(41_control_flow.md R102, R103). -/
theorem commitsTo_of_jumpIf {i : Instr} {s : State} {test : Nat → Bool} {opnd : Nat} (hs : s.wf) (hlen : i.op.len = 2)
    (hreads : i.op.reads = 1) (hwrites : i.op.writes = 0)
    (hbody : execBody i s (Work.start s) = .ok ((Work.start s).jumpIf test opnd)) :
    CommitsTo i s s.halted (if test s.top = true then (opnd : Int) else (s.pc : Int) + 2) ((s.sp : Int) + 1) none false
      s.read := by
  have htop : (Work.start s).pop.1 = s.top := State.pop_word_eq_top (State.one_le_n hs)
  have hop : i.op ≠ .halt := fun h => by simp [h, Op.len] at hlen
  have hsp : (s.sp : Int) + ((i.op.reads : Int) - i.op.writes) = (s.sp : Int) + 1 := by simp [hreads, hwrites]
  refine CommitsTo.halted_of_ne_halt ?_ hop
  cases htest : test s.top with
  | true =>
    rw [Work.jumpIf_of_true (htop ▸ htest)] at hbody
    rw [if_pos rfl]
    exact commitsTo_of_redirected hbody hs rfl rfl hsp fun _ => rfl
  | false =>
    rw [Work.jumpIf_of_false (htop ▸ htest)] at hbody
    rw [if_neg Bool.false_ne_true]
    have h := commitsTo_of_seq hbody hs rfl hsp fun _ => rfl
    rwa [hlen] at h

/-- Settles O12: JZ tests that the popped word is 0, JNZ that it is not. -/
theorem conditionalJumpsTestThePoppedWord : Obligations.ConditionalJumpsTestThePoppedWord := by
  intro s w0 opnd hs
  have hjz := commitsTo_of_jumpIf (i := .jz w0 opnd) hs rfl rfl rfl rfl
  have hjnz := commitsTo_of_jumpIf (i := .jnz w0 opnd) hs rfl rfl rfl rfl
  simp only [isZeroWord, decide_eq_true_eq, Bool.not_eq_true', decide_eq_false_iff_not, ite_not] at hjz hjnz
  exact ⟨hjz, hjnz⟩

/-! ## CALL and RET -/

/-- Settles O13: CALL pushes the return address, reduced to a word already, and redirects `pc`. -/
theorem callPushesTheReturnAddress : Obligations.CallPushesTheReturnAddress := by
  intro s w0 opnd hs
  refine (commitsTo_of_redirected (i := .call w0 opnd) rfl hs rfl rfl rfl fun a => ?_).halted_of_ne_halt nofun
  change (s.push (wordOf s.cfg (addressOf s.cfg ((s.pc : Int) + 2)))).read a = _
  rw [State.read_push hs, wordOf_of_lt (wordOf_lt _ _)]

/-- Settles O14: RET pops a word, redirects `pc` to it and writes nothing. -/
theorem retGoesToThePoppedWord : Obligations.RetGoesToThePoppedWord := by
  intro s w0 hs
  refine (commitsTo_of_redirected (i := .ret w0) rfl hs rfl ?_ rfl fun _ => rfl).halted_of_ne_halt nofun
  exact congrArg (fun x : Nat => addressOf s.cfg x) (State.pop_word_eq_top (State.one_le_n hs))

/-- A RET that commits, from any state whose array is not empty: the CALL before it may have recorded a Statement of any
words, so the state between them need not have the invariants (41_control_flow.md R105). -/
theorem exec_ret_next {s t : State} {w0 : Nat} (hn : 1 ≤ s.cfg.n) (hexec : exec (.ret w0) s = .next t) :
    t.sp = addressOf s.cfg ((s.sp : Int) + 1) ∧ t.pc = addressOf s.cfg s.top := by
  obtain rfl := eq_commit_of_exec_next (i := .ret w0) rfl hexec
  rw [← State.pop_word_eq_top hn]
  exact ⟨rfl, rfl⟩

/-- After a CALL the top word is the return address as a word, in the cell that was free before it
(41_control_flow.md R104). -/
theorem exec_call_next {s t : State} {w0 opnd : Nat} (hs : s.wf) (hexec : exec (.call w0 opnd) s = .next t) :
    t.cfg = s.cfg ∧ addressOf s.cfg ((t.sp : Int) + 1) = s.sp
      ∧ t.top = wordOf s.cfg (addressOf s.cfg ((s.pc : Int) + 2)) := by
  obtain ⟨⟨hcfg, -⟩, -, -, hsp, hmem⟩ := (callPushesTheReturnAddress s w0 opnd hs).of_exec_next hexec
  have hcell : addressOf s.cfg ((t.sp : Int) + 1) = addressOf s.cfg s.sp := by
    rw [hsp, addressOf_addressOf_add (State.one_le_n hs), Int.sub_add_cancel]
  obtain ⟨-, -, -, hlt, -⟩ := hs
  exact ⟨hcfg, hcell.trans (addressOf_of_lt hlt), (hmem _).trans (State.readWith_of_eq hcell _)⟩

/-- Settles O15: RET pops the cell CALL pushed, which holds the return address modulo `2^W`; an address below `2^W` is its
own residue. -/
theorem retAfterCallReturnsModWordSize : Obligations.RetAfterCallReturnsModWordSize := by
  intro s t u w0 opnd w1 hs hcall hret
  have hn := State.one_le_n hs
  obtain ⟨hcfg, hcell, htop⟩ := exec_call_next hs hcall
  obtain ⟨hsp, hpc⟩ := exec_ret_next (hcfg ▸ hn) hret
  rw [hcfg] at hsp hpc
  rw [htop, wordOf_natCast] at hpc
  refine ⟨hsp.trans hcell, hpc, fun hfits => ?_⟩
  have hlt : addressOf s.cfg ((s.pc : Int) + 2) < s.cfg.n := addressOf_lt hn _
  rw [hpc, Nat.mod_eq_of_lt (hlt.trans_le hfits), addressOf_of_lt hlt]

/-! ## The JMP to itself -/

/-- A property of states that are neither halted nor held, and that every STEP keeps by committing, makes a run a hang
(70_reset_and_hazards.md R186). -/
theorem hangs_of_invariant {P : State → Prop} (hstep : ∀ s, P s → ∃ t, step s = .next t ∧ P t)
    (hlive : ∀ s, P s → s.halted = false ∧ ¬ s.held) {s : State} (hs : P s) : Hangs s := by
  intro k
  induction k generalizing s with
  | zero => exact ⟨s, rfl, hlive s hs⟩
  | succ k ih =>
    obtain ⟨t, hst, ht⟩ := hstep s hs
    obtain ⟨u, hrun, hu⟩ := ih ht
    exact ⟨u, by rw [runSteps, hst]; exact hrun, hu⟩

/-- The fetch depends on the parameters, `pc` and the words of memory (40_step_engine.md R82, R83). -/
theorem fetchInstr_congr {s t : State} (hcfg : t.cfg = s.cfg) (hpc : t.pc = s.pc) (hmem : ∀ a, t.read a = s.read a) :
    fetchInstr t = fetchInstr s := by
  simp only [fetchInstr, hcfg, hpc, hmem]

/-- The gap depends on the parameters and the cursors (40_step_engine.md R86). -/
theorem State.gap_congr {s t : State} (hcfg : t.cfg = s.cfg) (hpc : t.pc = s.pc) (hsp : t.sp = s.sp) : t.gap = s.gap := by
  simp only [State.gap, hcfg, hpc, hsp]

/-- A running core about to execute a JMP to the address it stands at, with room for it (41_control_flow.md R101). -/
structure State.JumpsToItself (w0 opnd : Nat) (s : State) : Prop where
  wf : s.wf
  running : s.halted = false
  fetched : fetchInstr s = .jmp w0 opnd
  target : addressOf s.cfg opnd = s.pc
  gap : GapAtLeast s 2

section
variable {w0 opnd : Nat} {s : State} (h : s.JumpsToItself w0 opnd)
include h

/-- The target is not `sp`: the gap to it is not 0 (70_reset_and_hazards.md R187). -/
theorem State.JumpsToItself.commitCondition : CommitCondition (.jmp w0 opnd) s := by
  refine ⟨h.gap, fun hpol hmeet => ?_⟩
  obtain ⟨-, -, -, hsp, -⟩ := h.wf
  rw [h.target, addressOf_of_lt hsp] at hmeet
  have hgap := h.gap hpol
  rw [State.gap_eq_zero hmeet] at hgap
  omega

/-- The JMP commits and leaves the parameters, the cursors and memory as they were, so the next STEP is the same one. -/
theorem State.JumpsToItself.step_commits : ∃ t, step s = .next t ∧ t.JumpsToItself w0 opnd := by
  obtain ⟨t, hexec, ⟨hcfg, -⟩, hhalted, hpc, hsp, hmem⟩ :=
    (jmpGoesToTheOperand s w0 opnd h.wf).1 h.commitCondition
  have hstep : step s = .next t := by rw [step_of_running h.running, h.fetched, hexec]
  have hwf : t.wf := (stepKeepsTheStateInvariants s t h.wf hstep).1
  have hpc' : t.pc = s.pc := hpc.trans h.target
  obtain ⟨-, -, -, hlt, -⟩ := h.wf
  have hsp' : t.sp = s.sp := hsp.trans (addressOf_of_lt hlt)
  refine ⟨t, hstep, hwf, hhalted.trans h.running, (fetchInstr_congr hcfg hpc' hmem).trans h.fetched, ?_, fun hpol => ?_⟩
  · rw [hcfg, hpc', h.target]
  · rw [State.gap_congr hcfg hpc' hsp']
    exact h.gap (hcfg ▸ hpol)

/-- The next STEP is a JMP, so it waits for no input. -/
theorem State.JumpsToItself.not_held : ¬ s.held := by
  rintro ⟨-, hop, -⟩
  rw [h.fetched] at hop
  cases hop

end

/-- Settles O51: the JMP to itself is before every STEP of the run. -/
theorem jumpToItselfHangs : Obligations.JumpToItselfHangs := fun _ w0 opnd hs hrun hfetch htarget hgap =>
  hangs_of_invariant (P := State.JumpsToItself w0 opnd) (fun _ h => h.step_commits) (fun _ h => ⟨h.running, h.not_held⟩)
    ⟨hs, hrun, hfetch, htarget, hgap⟩

end Sys2Proof.Machine

/-! Stack and data movement (42_stack_data.md): what PUSH, POP, DUP, SWAP, LD and ST do in full. -/

namespace Sys2Proof.Machine

/-! ## The cells an instruction sets -/

/-- The cell that is set may be named before or after its wrapping (20_memory.md R41). -/
theorem State.readWith_addressOf {s : State} (hn : 1 ≤ s.cfg.n) (x : Int) (v : Nat) (a : Int) :
    s.readWith (addressOf s.cfg x) v a = s.readWith x v a := by
  rw [State.readWith, addressOf_of_lt (addressOf_lt hn x), State.readWith]

/-- A Push of a word stores it unchanged (20_memory.md R40, R53). -/
theorem State.read_push_of_lt {s : State} (hs : s.wf) {v : Nat} (hv : v < 2 ^ s.cfg.w) (a : Int) :
    (s.push v).read a = s.readWith s.sp v a := by
  rw [State.read_push hs, wordOf_of_lt hv]

/-- A Push right after a Pop sets the popped cell (20_memory.md R53, R54). -/
theorem State.read_pop_push_of_lt {s : State} (hs : s.wf) {v : Nat} (hv : v < 2 ^ s.cfg.w) (a : Int) :
    (s.pop.2.push v).read a = s.readWith ((s.sp : Int) + 1) v a := by
  rw [State.read_push_of_lt (State.pop_wf hs) hv]
  exact State.readWith_addressOf (State.one_le_n hs) ((s.sp : Int) + 1) v a

/-- Two Pushes right after two Pops set the two popped cells; the later one prevails where the two are one cell
(20_memory.md R53, R54). -/
theorem State.read_pop_pop_push_push_of_lt {s : State} (hs : s.wf) {v x : Nat} (hv : v < 2 ^ s.cfg.w)
    (hx : x < 2 ^ s.cfg.w) (a : Int) :
    ((s.pop.2.pop.2.push v).push x).read a =
      if addressOf s.cfg a = addressOf s.cfg ((s.sp : Int) + 1) then x else s.readWith ((s.sp : Int) + 2) v a := by
  have hn := State.one_le_n hs
  have hpopped := State.pop_wf (State.pop_wf hs)
  have hsp : (s.pop.2.pop.2.push v).cell 0 = s.cell 1 := by
    rw [State.push_cell (s := s.pop.2.pop.2) hn, State.pop_pop_cell hn]
    rfl
  have hfirst : (s.pop.2.pop.2.push v).read a = s.readWith ((s.sp : Int) + 2) v a := by
    rw [State.read_push_of_lt hpopped hv, State.pop_pop hn]
    exact State.readWith_addressOf hn ((s.sp : Int) + 2) v a
  rw [State.read_push_of_lt (State.push_wf hpopped _) hx, State.readWith, hfirst, ← State.cell_zero, hsp]
  rfl

/-! ## PUSH, POP and DUP -/

/-- Settles O16: the operand is a word, so it is pushed as it stands. -/
theorem pushPushesTheOperand : Obligations.PushPushesTheOperand := fun _ w0 opnd hs hopnd =>
  (commitsTo_of_seq (i := .push w0 opnd) rfl hs rfl rfl (State.read_push_of_lt hs hopnd)).halted_of_ne_halt nofun

/-- Settles O17: POP moves `sp` up and writes nothing. -/
theorem popDiscardsTheTop : Obligations.PopDiscardsTheTop := fun _ w0 hs =>
  (commitsTo_of_seq (i := .pop w0) rfl hs rfl rfl fun _ => rfl).halted_of_ne_halt nofun

/-- Settles O18: the word pushed is the top one, which is a word already. -/
theorem dupCopiesTheTop : Obligations.DupCopiesTheTop := fun _ w0 hs =>
  (commitsTo_of_seq (i := .dup w0) rfl hs rfl rfl
    (State.read_push_of_lt hs (State.read_lt hs _))).halted_of_ne_halt nofun

/-! ## SWAP -/

/-- The `Exec` phase of SWAP: the words popped are the top and the second one, pushed in the order they were popped
(42_stack_data.md R113). -/
theorem execBody_swap {s : State} (hn : 1 ≤ s.cfg.n) (w0 : Nat) :
    execBody (.swap w0) s (Work.start s)
      = .ok { Work.start s with st := (s.pop.2.pop.2.push s.top).push s.second } := by
  rw [← State.pop_word_eq_top hn, ← State.pop_pop_word_eq_second hn]
  rfl

/-- Settles O19: the top word goes to the cell of the second one, then the second word to the cell of the top one. -/
theorem swapExchangesTheTwoTopWords : Obligations.SwapExchangesTheTwoTopWords := fun _ w0 hs =>
  (commitsTo_of_seq (execBody_swap (State.one_le_n hs) w0) hs rfl (Int.add_zero _)
    (State.read_pop_pop_push_push_of_lt hs (State.read_lt hs _) (State.read_lt hs _))).halted_of_ne_halt nofun

/-! ## LD and ST -/

/-- The `Exec` phase of LD: a Pop of the address and a Push of the word stored there (42_stack_data.md R114). -/
theorem execBody_ld {s : State} (hn : 1 ≤ s.cfg.n) (w0 : Nat) :
    execBody (.ld w0) s (Work.start s) = .ok { Work.start s with st := s.pop.2.push (s.read s.top) } := by
  rw [← State.pop_word_eq_top hn]
  rfl

/-- Settles O20: the word is read before the Push, so an address that names its own cell is its own word. -/
theorem ldReplacesTheAddressByItsWord : Obligations.LdReplacesTheAddressByItsWord := fun _ w0 hs =>
  (commitsTo_of_seq (execBody_ld (State.one_le_n hs) w0) hs rfl (Int.add_zero _)
    (State.read_pop_push_of_lt hs (State.read_lt hs _))).halted_of_ne_halt nofun

/-- Settles O21: ST pops two words and sets the one cell that the top word names. -/
theorem stStoresTheSecondWordAtTheTopAddress : Obligations.StStoresTheSecondWordAtTheTopAddress := by
  intro s w0 hs
  refine (commitsTo_of_seq (execBody_st (State.one_le_n hs) w0) hs rfl rfl fun a => ?_).halted_of_ne_halt nofun
  rw [State.read_write (State.setSp_wf hs _), State.setSp_cfg, State.second, wordOf_of_lt (State.read_lt hs _)]
  rfl

end Sys2Proof.Machine

/-! Arithmetic and logic (43_arith_logic.md): what an operation on two stack words or on one does in full. -/

namespace Sys2Proof.Machine

/-! ## The operand forms -/

/-- A Push right after two Pops sets the cell popped last (20_memory.md R53, R54). -/
theorem State.read_pop_pop_push_of_lt {s : State} (hs : s.wf) {v : Nat} (hv : v < 2 ^ s.cfg.w) (a : Int) :
    (s.pop.2.pop.2.push v).read a = s.readWith ((s.sp : Int) + 2) v a := by
  have hn := State.one_le_n hs
  rw [State.read_push_of_lt (State.pop_wf (State.pop_wf hs)) hv, State.pop_pop hn]
  exact State.readWith_addressOf hn ((s.sp : Int) + 2) v a

/-- `f` takes the second word, then the top (43_arith_logic.md R121). -/
theorem Work.start_binOp {s : State} (hn : 1 ≤ s.cfg.n) (f : Nat → Nat → Nat) :
    (Work.start s).binOp f = { Work.start s with st := s.pop.2.pop.2.push (f s.second s.top) } := by
  rw [← State.pop_word_eq_top hn, ← State.pop_pop_word_eq_second hn]
  rfl

/-- `f` takes the top word (43_arith_logic.md R121). -/
theorem Work.start_unOp {s : State} (hn : 1 ≤ s.cfg.n) (f : Nat → Nat) :
    (Work.start s).unOp f = { Work.start s with st := s.pop.2.push (f s.top) } := by
  rw [← State.pop_word_eq_top hn]
  rfl

section
variable {i : Instr} {s : State} (hs : s.wf) (hlen : i.op.len = 1) (hwrites : i.op.writes = 1)
include hs hlen hwrites

/-- A one-word instruction that writes one cell and leaves `pc`, the channels and the output alone sets that cell. -/
theorem setsCell_of_execBody {t : State} {sp at' : Int} {v : Nat}
    (hbody : execBody i s (Work.start s) = .ok { Work.start s with st := t })
    (hsp : (s.sp : Int) + ((i.op.reads : Int) - i.op.writes) = sp) (hmem : ∀ a, t.read a = s.readWith at' v a) :
    SetsCell i s sp at' v := by
  have hop : i.op ≠ .halt := fun h => by simp [h, Op.writes] at hwrites
  have h := commitsTo_of_seq hbody hs rfl hsp hmem
  rw [hlen] at h
  exact h.halted_of_ne_halt hop

variable {v : Nat} (hv : v < 2 ^ s.cfg.w)
include hv

/-- `BinOp(f)`: its result replaces the two words popped (43_arith_logic.md R121). -/
theorem setsCell_of_binOp {f : Nat → Nat → Nat} (hreads : i.op.reads = 2)
    (hbody : execBody i s (Work.start s) = .ok ((Work.start s).binOp f)) (hf : f s.second s.top = v) :
    SetsCell i s ((s.sp : Int) + 1) ((s.sp : Int) + 2) v := by
  rw [Work.start_binOp (State.one_le_n hs), hf] at hbody
  exact setsCell_of_execBody hs hlen hwrites hbody (by rw [hreads, hwrites]; rfl)
    (State.read_pop_pop_push_of_lt hs hv)

/-- `UnOp(f)`: its result replaces the word popped (43_arith_logic.md R121). -/
theorem setsCell_of_unOp {f : Nat → Nat} (hreads : i.op.reads = 1)
    (hbody : execBody i s (Work.start s) = .ok ((Work.start s).unOp f)) (hf : f s.top = v) :
    SetsCell i s s.sp ((s.sp : Int) + 1) v := by
  rw [Work.start_unOp (State.one_le_n hs), hf] at hbody
  exact setsCell_of_execBody hs hlen hwrites hbody (by rw [hreads, hwrites]; exact Int.add_zero _)
    (State.read_pop_push_of_lt hs hv)

end

/-! ## Results reduced by `word_of` -/

/-- A difference of words is reduced as a sum with the complement to `2^W` (43_arith_logic.md R123, R125). -/
theorem wordOf_sub {c : Config} {y : Nat} (hy : y ≤ 2 ^ c.w) (x : Nat) :
    wordOf c ((x : Int) - y) = (x + (2 ^ c.w - y)) % 2 ^ c.w := by
  have hsum : ((x + (2 ^ c.w - y) : Nat) : Int) = (x : Int) - y + (2 ^ c.w : Nat) := by omega
  rw [← wordOf_natCast, hsum, wordOf, wordOf, Int.add_emod_right]

/-- The complement of a word is in range (43_arith_logic.md R129). -/
theorem wordOf_complement {c : Config} {x : Nat} (hx : x < 2 ^ c.w) :
    wordOf c (((2 ^ c.w : Nat) : Int) - 1 - x) = 2 ^ c.w - 1 - x := by
  have hcast : ((2 ^ c.w : Nat) : Int) - 1 - x = (2 ^ c.w - 1 - x : Nat) := by omega
  rw [hcast, wordOf_of_lt (by omega)]

/-- Settles O23: the sum and the difference, reduced. -/
theorem addAndSubAreModular : Obligations.AddAndSubAreModular := by
  intro s w0 hs
  have hpos := Nat.two_pow_pos s.cfg.w
  refine ⟨setsCell_of_binOp (i := .add w0) hs rfl rfl (Nat.mod_lt _ hpos) rfl rfl ?_,
    setsCell_of_binOp (i := .sub w0) hs rfl rfl (Nat.mod_lt _ hpos) rfl rfl ?_⟩
  · exact wordOf_natCast s.cfg _
  · exact wordOf_sub (State.read_lt hs _).le _

/-- Settles O26: the successor and the predecessor, reduced, and the complement, which needs no reduction. -/
theorem unaryOperationsWorkInPlace : Obligations.UnaryOperationsWorkInPlace := by
  intro s w0 hs
  have hpos := Nat.two_pow_pos s.cfg.w
  have hcomplement : 2 ^ s.cfg.w - 1 - s.read ((s.sp : Int) + 1) < 2 ^ s.cfg.w := by omega
  refine ⟨setsCell_of_unOp (i := .inc w0) hs rfl rfl (Nat.mod_lt _ hpos) rfl rfl ?_,
    setsCell_of_unOp (i := .dec w0) hs rfl rfl (Nat.mod_lt _ hpos) rfl rfl ?_,
    setsCell_of_unOp (i := .not w0) hs rfl rfl hcomplement rfl rfl ?_⟩
  · exact wordOf_natCast s.cfg _
  · exact wordOf_sub hpos _
  · exact wordOf_complement (State.read_lt hs _)

/-! ## Results in range as they are -/

/-- Settles O24: bit by bit, two words give a word. -/
theorem bitwiseOperationsWorkOnEachBit : Obligations.BitwiseOperationsWorkOnEachBit := by
  intro s w0 hs
  have hsecond := State.read_lt hs ((s.sp : Int) + 2)
  have htop := State.read_lt hs ((s.sp : Int) + 1)
  have hand := Nat.and_lt_two_pow (s.read ((s.sp : Int) + 2)) htop
  have hor := Nat.or_lt_two_pow hsecond htop
  have hxor := Nat.xor_lt_two_pow hsecond htop
  refine ⟨⟨_, hand, fun j _ => ?_, setsCell_of_binOp (i := .and w0) hs rfl rfl hand rfl rfl rfl⟩,
    ⟨_, hor, fun j _ => ?_, setsCell_of_binOp (i := .or w0) hs rfl rfl hor rfl rfl rfl⟩,
    ⟨_, hxor, fun j _ => ?_, setsCell_of_binOp (i := .xor w0) hs rfl rfl hxor rfl rfl rfl⟩⟩
  · rw [Nat.testBit_and, Bool.and_eq_true]
  · rw [Nat.testBit_or, Bool.or_eq_true]
  · rw [Nat.testBit_xor, bne_iff_ne]

theorem truthWord_decide (p : Prop) [Decidable p] : truthWord (decide p) = if p then 1 else 0 := by
  simp only [truthWord, decide_eq_true_eq]

/-- Both truth words fit in one bit, and a word has at least one (00_scope.md R4). -/
theorem truthWord_lt {s : State} (hs : s.wf) (b : Bool) : truthWord b < 2 ^ s.cfg.w := by
  obtain ⟨⟨-, hw, -⟩, -⟩ := hs
  cases b with
  | false => exact Nat.two_pow_pos _
  | true => exact Nat.one_lt_two_pow (Nat.one_le_iff_ne_zero.mp hw)

/-- Settles O25: a comparison gives a truth word. -/
theorem comparisonsPushOneOrZero : Obligations.ComparisonsPushOneOrZero := by
  intro s w0 hs
  simp only [← truthWord_decide]
  exact ⟨setsCell_of_binOp (i := .eq w0) hs rfl rfl (truthWord_lt hs _) rfl rfl rfl,
    setsCell_of_binOp (i := .lt w0) hs rfl rfl (truthWord_lt hs _) rfl rfl rfl,
    setsCell_of_binOp (i := .gt w0) hs rfl rfl (truthWord_lt hs _) rfl rfl rfl⟩

end Sys2Proof.Machine

/-! Input and output (44_io.md): the hold of IN on an empty channel, and what IN with a word available and OUT do in full. -/

namespace Sys2Proof.Machine

/-! ## IN -/

/-- Settles O27: the `Exec` phase raises InputExhausted, which commits nothing (60_exceptions.md R152, R161). -/
theorem inOnAnEmptyChannelHolds : Obligations.InOnAnEmptyChannelHolds := fun _ w0 hin =>
  exec_of_held (i := .in_ w0) rfl hin

/-- The head of the input channel is a word (44_io.md R140). -/
theorem State.input_head_lt {s : State} (hs : s.wf) {x : Nat} {rest : List Nat} (hin : s.input = x :: rest) :
    x < 2 ^ s.cfg.w := by
  obtain ⟨-, -, -, -, -, -, hinput, -⟩ := hs
  exact hinput x (hin ▸ List.mem_cons_self)

/-- Settles O28: the head is marked as taken and pushed as it stands, being a word already. -/
theorem inPushesTheHeadOfTheChannel : Obligations.InPushesTheHeadOfTheChannel := fun s w0 _ _ hs hin =>
  (commitsTo_of_seq (execBody_in_of_cons (t := Work.start s) hin w0 s) hs rfl rfl
    (State.read_push_of_lt hs (State.input_head_lt hs hin))).halted_of_ne_halt nofun

/-! ## OUT -/

/-- The `Exec` phase of OUT: a Pop, and the top word queued as it stands (44_io.md R141, R143). -/
theorem execBody_out {s : State} (hs : s.wf) (w0 : Nat) :
    execBody (.out w0) s (Work.start s) = .ok { Work.start s with st := s.pop.2, out := some s.top } := by
  have hword : wordOf s.cfg s.pop.1 = s.top := by
    rw [State.pop_word_eq_top (State.one_le_n hs), State.top, wordOf_of_lt (State.read_lt hs _)]
  rw [← hword]
  rfl

/-- Settles O29: OUT writes no cell, so every word reads as before, the popped one too. -/
theorem outEmitsThePoppedWord : Obligations.OutEmitsThePoppedWord := fun _ w0 hs =>
  (commitsTo_of_seq (execBody_out hs w0) hs rfl rfl fun _ => rfl).halted_of_ne_halt nofun

end Sys2Proof.Machine

/-! Errors, holds and observation (60_exceptions.md): the status codes, the hold that supplied input lifts, what a halted core
holds, and the transactions LOAD and SNAPSHOT. -/

namespace Sys2Proof.Machine

/-! ## The status codes -/

/-- Six codes of the eight are in use (60_exceptions.md R150). -/
theorem Status.code_lt_six (x : Status) : x.code.toNat < 6 := by
  cases x <;> decide

/-- Settles O58: the codes are those of the table, and all of them are below 6. -/
theorem statusCodes : Obligations.StatusCodes := by
  refine ⟨rfl, rfl, rfl, rfl, rfl, rfl, fun x => ?_⟩
  have hlt := x.code_lt_six
  exact ⟨fun hsix => absurd (hsix ▸ hlt) (by decide), fun hseven => absurd (hseven ▸ hlt) (by decide)⟩

/-! ## The hold and its lifting -/

theorem Instr.eq_in_of_op {i : Instr} (h : i.op = .in_) : ∃ w0, i = .in_ w0 := by
  cases i with
  | in_ w0 => exact ⟨w0, rfl⟩
  | _ => cases h

/-- A held core fetches an IN and finds no input: a hold, in which only the driven outputs change
(60_exceptions.md R152, R161). -/
theorem step_of_held {s : State} (h : s.held) :
    step s = .next { s with port := some (errorPort .inputExhausted) } := by
  obtain ⟨hrun, hop, hin⟩ := h
  exact (step_of_running hrun).trans (exec_of_held hop hin)

/-- The driven outputs do not decide whether a core is held: no rule reads them (log 5). -/
theorem State.held_withPort {s : State} (h : s.held) (p : Option StepPort) : ({ s with port := p } : State).held := h

/-- The supply of input leaves a held core running and about to execute the same IN, with the words supplied as its whole
channel (44_io.md R140). -/
theorem supplyInput_of_held {s : State} (h : s.held) (ws : List Int) :
    (supplyInput ws s).halted = false ∧ (∃ w0, fetchInstr (supplyInput ws s) = .in_ w0)
      ∧ (supplyInput ws s).input = ws.map (wordOf s.cfg) := by
  obtain ⟨hrun, hop, hin⟩ := h
  refine ⟨hrun, Instr.eq_in_of_op hop, ?_⟩
  change s.input ++ ws.map (wordOf s.cfg) = _
  rw [hin, List.nil_append]

/-- Settles O30: the retried IN is one with a word available, which O28 tells in full. -/
theorem suppliedInputLiftsTheHold : Obligations.SuppliedInputLiftsTheHold := by
  intro s x xs hs hheld
  refine ⟨⟨_, step_of_held hheld, State.held_withPort hheld _, rfl⟩, fun hgap => ?_⟩
  obtain ⟨hrun, ⟨w0, hfetch⟩, hin⟩ := supplyInput_of_held hheld (x :: xs)
  have hcommits := inPushesTheHeadOfTheChannel _ w0 _ _ (supplyInput_wf hs (x :: xs)) hin
  obtain ⟨t, hexec, ⟨-, -, -, hrest, -⟩, -, -, -, hmem⟩ := hcommits.1 hgap
  refine ⟨t, ?_, ?_, ?_⟩
  · rw [step_of_running hrun, hfetch, hexec]
  · rw [hrest, hin]
    rfl
  · exact (hmem s.sp).trans (State.readWith_of_eq rfl _)

/-! ## The HALT Statement -/

/-- HALT is of format F1, so its Statement has no payload (30_encoding.md R63, R69). -/
theorem fetchInstr_stmt_of_halt {s : State} (h : (fetchInstr s).op = .halt) :
    s.cfg.decodeWord (fetchInstr s).stmt.opcode = .halt ∧ (fetchInstr s).stmt.payload = none := by
  rw [fetchInstr_op] at h
  rw [fetchInstr_stmt]
  exact ⟨h, by rw [h]; rfl⟩

/-- Settles O48: a hold leaves the core running, and a commit sets `halted` for HALT alone, whose Statement it records. -/
theorem haltedCoreHoldsTheHaltStatement : Obligations.HaltedCoreHoldsTheHaltStatement := by
  intro s t _ hstep hhalted
  obtain ⟨hrun, hexec⟩ := step_next hstep
  rcases exec_next_cases hexec with ⟨-, -, rfl⟩ | ⟨w, hbody, -, rfl⟩
  · exact nomatch hrun.symm.trans hhalted
  · obtain ⟨hcfg, -, hlast, -⟩ := committed_of_execBody hbody (fetchInstr s).stmt
    have hop := (commit_halted_iff hbody hrun _ _).mp hhalted
    rw [hcfg, hlast]
    exact ⟨_, rfl, fetchInstr_stmt_of_halt hop⟩

/-! ## LOAD -/

/-- An address in range reads as the array has it there (20_memory.md R41, R42). -/
theorem State.read_natCast_of_lt {s : State} {a : Nat} (h : a < s.cfg.n) : s.read a = Memory.read s.mem a := by
  rw [State.read, addressOf_of_lt h]

section
variable {p : List Nat} {s : State}

theorem load_of_empty (h : p.length = 0) : load p s = (.emptyProgram, s) := if_pos h

/-- A program longer than the array is not empty, so it fails the second check (60_exceptions.md R154). -/
theorem load_of_too_large (h : s.cfg.n < p.length) : load p s = (.programTooLarge, s) := by
  rw [load, if_neg (by omega), if_pos h]

theorem load_of_fits (hpos : 1 ≤ p.length) (hle : p.length ≤ s.cfg.n) :
    load p s = (.ok, resetWith (programMemory s.cfg 0 p) s) := by
  rw [load, if_neg (by omega), if_neg (by omega)]

/-- After a LOAD an address holds the program's word, or 0 past its end (70_reset_and_hazards.md R181). -/
theorem read_resetWith_programMemory {a : Nat} (h : a < s.cfg.n) :
    (resetWith (programMemory s.cfg 0 p) s).read a = (p[a]?.map fun x => wordOf s.cfg x).getD 0 := by
  rw [State.read_natCast_of_lt (by exact h)]
  exact (programMemory_read s.cfg p 0 a).trans (if_pos (Nat.zero_le a))

end

/-- Settles O55, by the length of the program. -/
theorem loadPlacesTheProgramAndResets : Obligations.LoadPlacesTheProgramAndResets := by
  intro p s _
  refine ⟨load_of_empty, load_of_too_large, fun hpos hle => ?_⟩
  rw [load_of_fits hpos hle]
  exact ⟨rfl, fun a ha => read_resetWith_programMemory ha, rfl, rfl, rfl, rfl, rfl, rfl⟩

/-! ## SNAPSHOT -/

@[simp] theorem State.readRange_length (s : State) (a len : Nat) : (s.readRange a len).length = len := by
  simp [State.readRange]

theorem State.readRange_getElem? (s : State) (a : Nat) {j len : Nat} (h : j < len) :
    (s.readRange a len)[j]? = some (s.read ((a : Int) + j)) := by
  simp [State.readRange, h]

/-- Two ranges of words, the second of which begins where the first ends, are one. -/
theorem State.readRange_append (s : State) (a m k : Nat) :
    s.readRange a m ++ s.readRange (a + m) k = s.readRange a (m + k) := by
  simp [State.readRange, List.range_add, Int.add_assoc]

/-- The two sides of memory joined are the whole array, wherever `sp` stands in it (60_exceptions.md R166). -/
theorem snapshot_sides_append {s : State} (hsp : s.sp < s.cfg.n) :
    (snapshot s).memoryPcSide ++ (snapshot s).memorySpSide = s.readRange 0 s.cfg.n := by
  have hjoin := s.readRange_append 0 (s.sp + 1) (s.cfg.n - 1 - s.sp)
  have hlen : s.sp + 1 + (s.cfg.n - 1 - s.sp) = s.cfg.n := by omega
  rwa [Nat.zero_add, hlen] at hjoin

/-- Settles O57: the fields are the state's own, and the sides are the array cut in two after `sp`. -/
theorem snapshotShowsTheWholeMemory : Obligations.SnapshotShowsTheWholeMemory := by
  rintro s ⟨-, -, -, hsp, -⟩
  refine ⟨rfl, rfl, rfl, rfl, rfl, s.readRange_length _ _, s.readRange_length _ _, fun a ha => ?_⟩
  rw [snapshot_sides_append hsp, s.readRange_getElem? 0 ha, Int.natCast_zero, Int.zero_add]

end Sys2Proof.Machine

/-! Reset, load and the end of a run (70_reset_and_hazards.md): what `POWER_ON` sets, what a LOAD depends on, and the four
ways a run can go. -/

namespace Sys2Proof.Machine

/-! ## POWER_ON and LOAD -/

/-- The array `POWER_ON` leaves lists no word, so every address holds 0 (70_reset_and_hazards.md R180). -/
theorem powerOn_read (s : State) (a : Int) : (powerOn s).read a = 0 := Memory.read_nil _

/-- Settles O53: memory is cleared, and the other fields are those of `State.init`. -/
theorem powerOnSetsEveryPieceOfState : Obligations.PowerOnSetsEveryPieceOfState := fun s =>
  ⟨powerOn_read s, rfl, rfl, rfl, rfl, rfl, rfl⟩

/-- A LOAD returns OK for the programs that fit the array and for no others (70_reset_and_hazards.md R181). -/
theorem load_ok_iff {p : List Nat} {s : State} : (load p s).1 = .ok ↔ 1 ≤ p.length ∧ p.length ≤ s.cfg.n := by
  refine ⟨fun hok => ?_, fun ⟨hpos, hle⟩ => by rw [load_of_fits hpos hle]⟩
  by_contra hfits
  have hbad : p.length = 0 ∨ s.cfg.n < p.length := by omega
  rcases hbad with hempty | hlarge
  · rw [load_of_empty hempty] at hok
    cases hok
  · rw [load_of_too_large hlarge] at hok
    cases hok

/-- The reset keeps the parameters and the channels of a state and nothing else of it (10_state.md R30). -/
theorem resetWith_congr {s s' : State} (hcfg : s.cfg = s'.cfg) (hin : s.input = s'.input) (hout : s.output = s'.output)
    (m : Memory) : resetWith m s = resetWith m s' := by
  rw [resetWith, resetWith, hcfg, hin, hout]

/-- Settles O56: whether the program fits, the memory it fills and the reset depend on what the two states share. -/
theorem loadForgetsTheEarlierRun : Obligations.LoadForgetsTheEarlierRun := by
  intro p s s' hcfg hin hout hok
  obtain ⟨hpos, hle⟩ := load_ok_iff.mp hok
  rw [load_of_fits hpos hle, load_of_fits hpos (hcfg ▸ hle), resetWith_congr hcfg hin hout, hcfg]

/-! ## Runs extended by one STEP -/

section
variable {s t : State} {k : Nat}

theorem runSteps_succ_of_next (h : runSteps k s = .next t) : runSteps (k + 1) s = step t := by
  induction k generalizing s with
  | zero =>
    obtain rfl := Host.Outcome.next.inj h
    rw [runSteps]
    cases step s <;> rfl
  | succ k ih =>
    rw [runSteps] at h ⊢
    cases hst : step s with
    | next u =>
      rw [hst] at h
      exact ih h
    | fault | refused =>
      rw [hst] at h
      cases h

theorem runSteps_succ_of_fault {f : Fault} (h : runSteps k s = .fault f) : runSteps (k + 1) s = .fault f := by
  induction k generalizing s with
  | zero => cases h
  | succ k ih =>
    rw [runSteps] at h ⊢
    cases hst : step s with
    | next u =>
      rw [hst] at h
      exact ih h
    | fault | refused =>
      rw [hst] at h
      exact h

end

/-! ## What a run that ends answers from some STEP on -/

section
variable {s : State}

/-- What a run answers once, and every STEP more keeps, it answers for all larger numbers of STEPs. -/
theorem eventually_runSteps {P : Outcome → Prop} {k : Nat} (hk : P (runSteps k s))
    (hkeep : ∀ j, P (runSteps j s) → P (runSteps (j + 1) s)) : ∀ᶠ j in Filter.atTop, P (runSteps j s) :=
  Filter.eventually_atTop.mpr ⟨k, fun _ hle => Nat.le_induction hk (fun j _ hj => hkeep j hj) _ hle⟩

/-- A fault is the answer of every longer run, which stops at it (60_exceptions.md R161). -/
theorem eventually_runSteps_fault {f : Fault} {k : Nat} (h : runSteps k s = .fault f) :
    ∀ᶠ j in Filter.atTop, runSteps j s = .fault f :=
  eventually_runSteps (P := (· = .fault f)) h fun _ => runSteps_succ_of_fault

/-- A core that a run left halted answers `AlreadyHalted` from then on (60_exceptions.md R151). -/
theorem EndsWell.eventually (h : EndsWell s) : ∀ᶠ j in Filter.atTop, runSteps j s = .fault .alreadyHalted := by
  obtain ⟨k, t, hrun, hhalted⟩ := h
  exact eventually_runSteps_fault ((runSteps_succ_of_next hrun).trans (step_of_halted hhalted))

theorem EndsBadly.eventually (h : EndsBadly s) : ∀ᶠ j in Filter.atTop, runSteps j s = .fault .cursorCollision :=
  h.elim fun _ => eventually_runSteps_fault

/-- A held core stays held as long as the host supplies nothing: a STEP of it changes the driven outputs alone
(60_exceptions.md R161). -/
theorem IsHeld.eventually (h : IsHeld s) : ∀ᶠ j in Filter.atTop, ∃ t, runSteps j s = .next t ∧ t.held := by
  obtain ⟨k, t, hrun, hheld⟩ := h
  refine eventually_runSteps (P := fun o => ∃ t, o = .next t ∧ t.held) ⟨t, hrun, hheld⟩ ?_
  rintro j ⟨u, hu, hheld⟩
  exact ⟨_, (runSteps_succ_of_next hu).trans (step_of_held hheld), State.held_withPort hheld _⟩

end

/-! ## The four ways a run goes -/

section
variable {s : State}

/-- A STEP of a running core goes on or collides: the halt gate lets it pass, and an IN without input is a hold
(40_step_engine.md R88). -/
theorem step_running_cases (hrun : s.halted = false) : (∃ t, step s = .next t) ∨ step s = .fault .cursorCollision := by
  rw [step_of_running hrun]
  rcases held_or_execBody_ok (fetchInstr s) s with ⟨hop, hin⟩ | ⟨w, hbody⟩
  · exact .inl ⟨_, exec_of_held hop hin⟩
  · cases hstop : stopsOnCollision s (w.advance s (fetchInstr s).op.len) (fetchInstr s).op with
    | true => exact .inr (exec_of_stops hbody hstop)
    | false => exact .inl ⟨_, exec_of_clear hbody hstop⟩

/-- A run that never halts and never collides goes on for any number of STEPs. -/
theorem runSteps_next_of_endless (hwell : ¬ EndsWell s) (hbadly : ¬ EndsBadly s) (k : Nat) :
    ∃ t, runSteps k s = .next t := by
  induction k with
  | zero => exact ⟨s, rfl⟩
  | succ k ih =>
    obtain ⟨t, hrun⟩ := ih
    have hnext := runSteps_succ_of_next hrun
    have hrunning : t.halted = false := Bool.eq_false_of_not_eq_true fun hhalted => hwell ⟨k, t, hrun, hhalted⟩
    rcases step_running_cases hrunning with ⟨u, hst⟩ | hst
    · exact ⟨u, hnext.trans hst⟩
    · exact absurd ⟨k + 1, hnext.trans hst⟩ hbadly

/-- A run with none of the three ends is a hang (70_reset_and_hazards.md R186). -/
theorem hangs_of_no_end (hwell : ¬ EndsWell s) (hbadly : ¬ EndsBadly s) (hheld : ¬ IsHeld s) : Hangs s := by
  intro k
  obtain ⟨t, hrun⟩ := runSteps_next_of_endless hwell hbadly k
  exact ⟨t, hrun, Bool.eq_false_of_not_eq_true fun hhalted => hwell ⟨k, t, hrun, hhalted⟩,
    fun h => hheld ⟨k, t, hrun, h⟩⟩

theorem not_isHeld_of_eventually_fault {f : Fault} (hfault : ∀ᶠ j in Filter.atTop, runSteps j s = .fault f) :
    ¬ IsHeld s := fun hheld => by
  obtain ⟨j, hf, t, ht, -⟩ := (hfault.and hheld.eventually).exists
  exact nomatch hf.symm.trans ht

theorem not_hangs_of_eventually_fault {f : Fault} (hfault : ∀ᶠ j in Filter.atTop, runSteps j s = .fault f) :
    ¬ Hangs s := fun hhangs => by
  obtain ⟨j, hf⟩ := hfault.exists
  obtain ⟨t, ht, -⟩ := hhangs j
  exact nomatch hf.symm.trans ht

theorem not_endsWell_and_endsBadly : ¬ (EndsWell s ∧ EndsBadly s) := fun ⟨hwell, hbadly⟩ => by
  obtain ⟨j, hhalted, hcollided⟩ := (hwell.eventually.and hbadly.eventually).exists
  exact nomatch hhalted.symm.trans hcollided

theorem not_isHeld_and_hangs : ¬ (IsHeld s ∧ Hangs s) := fun ⟨⟨k, t, hrun, hheld⟩, hhangs⟩ => by
  obtain ⟨u, hu, -, hfree⟩ := hhangs k
  obtain rfl := Host.Outcome.next.inj (hrun.symm.trans hu)
  exact hfree hheld

end

/-- Settles O50: a run without one of the three ends goes on for ever, and no long enough run has two different answers. -/
theorem aRunEndsInExactlyOneWay : Obligations.ARunEndsInExactlyOneWay := fun _ =>
  ⟨or_iff_not_imp_left.mpr fun hwell => or_iff_not_imp_left.mpr fun hbadly => or_iff_not_imp_left.mpr fun hheld =>
      hangs_of_no_end hwell hbadly hheld,
    not_endsWell_and_endsBadly,
    fun ⟨hwell, hheld⟩ => not_isHeld_of_eventually_fault hwell.eventually hheld,
    fun ⟨hwell, hhangs⟩ => not_hangs_of_eventually_fault hwell.eventually hhangs,
    fun ⟨hbadly, hheld⟩ => not_isHeld_of_eventually_fault hbadly.eventually hheld,
    fun ⟨hbadly, hhangs⟩ => not_hangs_of_eventually_fault hbadly.eventually hhangs,
    not_isHeld_and_hangs⟩

end Sys2Proof.Machine
